-- ==== Sys2Proof/Word.lean ====
section
/-! DEFINITION. The words that cross a port of the OL-416, and the index types of its fixed collections. -/

namespace Sys2Proof

/-- One byte of a serial line or of the configuration memory. -/
abbrev Byte := BitVec 8

/-- An order ref as a frame carries it (R175: four bytes). -/
abbrev OrderRef := BitVec 32

/-- A pickup code or a staff code as a frame carries it (three bytes). -/
abbrev Code := BitVec 24

/-- The levels of sixteen locker lines: bit `n` is the line of locker `n`. -/
abbrev Lines := BitVec 16

/-- A locker number 0..15 (R1). -/
abbrev LockerNo := Fin 16

/-- A profile number 0..7 (R34). -/
abbrev ProfileNo := Fin 8

end Sys2Proof
end

