-- ==== Sys2Proof/Config.lean ====
section
/-! DEFINITION. What the configuration image fixes until the next reset (R182, R183). The manual leaves no value open
here that the model has to pick, so there is no free value (log 19). -/

namespace Sys2Proof

/-- The service line rates of R176, in bit/s. -/
inductive LineRate where
  | r9600 | r19200 | r38400 | r57600
  deriving DecidableEq, Repr

/-- One segment of a hold profile: its time code and its level code (R34). -/
structure Segment where
  timeCode  : Fin 16
  levelCode : Fin 32
  deriving DecidableEq, Repr

/-- The contents of a hold profile as codes (R34), apart from its present and valid flags. -/
structure Profile where
  segments     : Vector Segment 12
  offsetMinus  : Bool
  offsetAmount : Fin 8
  floorCode    : Fin 32
  /-- H, 0..255 as carried, in minutes. -/
  holdLimit    : Nat
  graceCode    : Fin 16
  bandCode     : Fin 4
  deriving DecidableEq, Repr

/-- The configuration fields that CFL hands the blocks at the end of STARTING, profiles apart (R182, R185). -/
structure Config where
  /-- own station number, 0..31 once the image has passed R184 -/
  station       : Nat
  globalBase    : Nat
  globalLimit   : Nat
  localBase     : Nat
  localLimit    : Nat
  /-- B_F, in 10 W units -/
  feederBudget  : Nat
  /-- B_L, in 10 W units -/
  branchBudget  : Nat
  /-- m, in per cent -/
  margin        : Nat
  /-- h, in per cent -/
  shed          : Nat
  /-- in 10 W units -/
  fallback      : Nat
  lonePermitted : Bool
  hideLock      : Bool
  /-- P_code, 1..63 once the image has passed R184 -/
  heaterCode    : Nat
  /-- overtemperature limit in hd -/
  overtemp      : Nat
  hideMask      : Lines
  staffCode     : Code
  rate          : LineRate
  deriving DecidableEq, Repr

/-- Stands for the configuration fields in a state that holds none. No rule reads them then; a reader that is asked
all the same finds zeros (log 15). -/
def Config.unread : Config where
  station := 0
  globalBase := 0
  globalLimit := 0
  localBase := 0
  localLimit := 0
  feederBudget := 0
  branchBudget := 0
  margin := 0
  shed := 0
  fallback := 0
  lonePermitted := false
  hideLock := false
  heaterCode := 0
  overtemp := 0
  hideMask := 0
  staffCode := 0
  rate := .r19200

/-- Stands for the contents of a profile slot in a state that holds none (log 15). -/
def Profile.unread : Profile where
  segments := Vector.replicate 12 ⟨0, 0⟩
  offsetMinus := false
  offsetAmount := 0
  floorCode := 0
  holdLimit := 0
  graceCode := 0
  bandCode := 0

end Sys2Proof
end

