-- ==== Sys2Proof/Syntax.lean ====
section
/-! DEFINITION. The commands of the OL-416: one constructor for each row of spec/opcode_table.json, with the operands
that the event or the frame carries. -/

namespace Sys2Proof

/-- A raw sample or a reading: 0..254 hd, or FAULT (R51, R52). -/
inductive Reading where
  | fault
  | valid (hd : Fin 255)
  deriving DecidableEq, Repr

/-- Why an arrived service frame is no command (R177), with the command code it is to be answered with. -/
inductive FrameFault where
  /-- abandoned before its code byte was received: echoes code 0 -/
  | noCode
  /-- abandoned after its code byte -/
  | abandoned (code : Byte)
  /-- the sum of its bytes is not a multiple of 256 -/
  | badSum (code : Byte)
  /-- the code is none of 1..12 -/
  | unknownCode (code : Byte)
  /-- the length does not fit the command -/
  | badLength (code : Byte)
  deriving DecidableEq, Repr

/-- Why an arrived panel frame is none of the four messages (R157, R158), with the type it is to be answered with. -/
inductive PanelFault where
  /-- abandoned before its type byte was received: echoes type 0 -/
  | noType
  /-- abandoned after its type byte -/
  | abandoned (type : Byte)
  /-- the sum of its bytes is not a multiple of 256 -/
  | badSum (type : Byte)
  /-- the length does not fit a type of 1..4 -/
  | badLength (type : Byte)
  /-- passes its check, but the type is none of 1..4 -/
  | unknownType (type : Byte)
  deriving DecidableEq, Repr

/-- The two ways a cell can end an own attempt in error (R95). -/
inductive AttemptError where
  /-- the value read differs from the value sent -/
  | differs
  /-- the receive path finds a framing error in the cell -/
  | framing
  deriving DecidableEq, Repr

/-- The twelve service commands as their frames carry them (R175). -/
inductive ServiceCmd where
  | book (ref : OrderRef) (code : Code) (profile : Byte) (preferred : Option Byte)
  | load (force : Bool) (refs : List OrderRef)
  | abortLoad
  | cancel (ref : OrderRef)
  | queryOrder (ref : OrderRef)
  | queryLocker (locker : Byte)
  | queryBank
  | fetch
  | release (ref : OrderRef)
  | hideLocker (locker : Byte)
  | showLocker (locker : Byte)
  | staffOpen (locker : Byte)
  deriving DecidableEq, Repr

/-- The four panel messages as their frames carry them (R158). -/
inductive PanelMsg where
  | present (code : Code)
  | confirm (locker : Byte)
  | abandon
  | presentStaff (code : Code) (locker : Byte)
  deriving DecidableEq, Repr

/-- The commands. A cell value `read` is `true` for a cell that reads 1 (recessive at the sample, R86). `trays` are
the levels of TP0..TP15 at the event (R8; log 7). -/
inductive Instr where
  -- start-up
  | reset
  | readCompletion (image : List Byte) (trays : Lines)
  -- temperature scan
  | scanEvent (n : LockerNo) (sample : Reading)
  -- heater windows and the shed
  | timedWindowStart
  | slotBoundary
  | feederWarnAssertion
  | feederWarnRelease
  | releaseHoldExpiry
  -- locker doors and timers
  | doorOpenEvent (n : LockerNo)
  | doorCloseEvent (n : LockerNo) (tray : Bool)
  | unlatchTimerExpiry (n : LockerNo)
  | ajarTimerExpiry (n : LockerNo)
  -- heat bus
  | attemptStart (read : Bool)
  | arbitrationLost
  | erroredAttempt (cause : AttemptError)
  | framingError
  | frameEnd
  -- panel
  | present (code : Code)
  | confirm (locker : Byte)
  | abandon
  | presentStaff (code : Code) (locker : Byte)
  | panelBadMessage (fault : PanelFault)
  | panelFrameDropped
  | panelGapTimerExpiry
  | panelResponseSent
  | claimTimerExpiry
  | throttleTimerExpiry
  -- service line
  | book (ref : OrderRef) (code : Code) (profile : Byte) (preferred : Option Byte)
  | load (force : Bool) (refs : List OrderRef)
  | abortLoad
  | cancel (ref : OrderRef)
  | queryOrder (ref : OrderRef) (trays : Lines)
  | queryLocker (locker : Byte) (trays : Lines)
  | queryBank
  | fetch
  | release (ref : OrderRef)
  | hideLocker (locker : Byte)
  | showLocker (locker : Byte) (trays : Lines)
  | staffOpen (locker : Byte)
  | badFrame (fault : FrameFault)
  | frameDiscarded
  | gapTimerExpiry
  | responseSent
  -- cells and bytes of the lines
  | fallingEdge (read : Bool)
  | serviceByteReceived (b : Byte) (framingError : Bool) (trays : Lines)
  | panelByteReceived (b : Byte) (framingError : Bool)
  deriving DecidableEq, Repr

end Sys2Proof
end

