-- ==== Sys2Proof/Machine/State.lean ====
section
/-! DEFINITION. Everything the manual gives the OL-416, as plain data, block by block, and its values after reset. -/

namespace Sys2Proof.Machine

/-- A timer: idle, or running with the milliseconds it has counted (log 2). -/
abbrev Timer := Option Nat

/-- The nine locker states (1.2). -/
inductive LockerState where
  | out | free | booked | loading | holding | opened | lockout | clearing | filing
  deriving DecidableEq, Repr

/-- Why a locker is locked out (R1). -/
inductive Cause where
  | expired | cold | sensor | tamper | cancelled | foreign | restart
  deriving DecidableEq, Repr

/-- The causes that TSU raises (R61); a deferred cause is one of them (R1). -/
inductive ScanCause where
  | expired | cold | sensor
  deriving DecidableEq, Repr

/-- A latch: LTn is asserted while it is released (R4). -/
inductive Latch where
  | locked | released
  deriving DecidableEq, Repr

/-- The indicator patterns of R5. -/
inductive Indicator where
  | off | steady | slow | fast
  deriving DecidableEq, Repr

/-- The heating urgency of a locker in one window (R74). -/
inductive HeatClass where
  | none | class1 | class2 | class3
  deriving DecidableEq, Repr

/-- One locker record (R1) with the fields that TSU (R51) and HDF (R68) keep in it, the output HTn, and the input
levels DRn and TPn. -/
structure Locker where
  state         : LockerState
  hidden        : Bool
  orderRef      : Option OrderRef
  pickupCode    : Option Code
  profile       : Option ProfileNo
  loadedCold    : Bool
  lockoutCause  : Option Cause
  deferredCause : Option ScanCause
  recordPending : Bool
  ajar          : Bool
  tamper        : Bool
  latch         : Latch
  unlatchTimer  : Timer
  ajarTimer     : Timer
  indicator     : Indicator
  /-- milliseconds since the present pattern began, modulo 1000 (R5; log 17) -/
  lampPhase     : Nat
  -- TSU, R51: the sample ring, oldest first
  ring0         : Reading
  ring1         : Reading
  ring2         : Reading
  reading       : Reading
  holdElapsed   : Nat
  minReading    : Option (Fin 255)
  belowRun      : Nat
  belowTotal    : Nat
  belowLongest  : Nat
  faultRun      : Nat
  overheat      : Bool
  -- HDF, R68
  call          : Bool
  cls           : HeatClass
  request       : Nat
  duty          : Nat
  heaterOn      : Bool
  -- input pins
  doorShut      : Bool
  trayPresent   : Bool
  deriving DecidableEq, Repr

/-- How a booking ended (R28, R169). -/
inductive BookingEnd where
  | collected | expired | cold | sensor | tamper | cancelled | voided
  deriving DecidableEq, Repr

/-- The flags of an outcome record (R28). -/
structure OutcomeFlags where
  loadedCold    : Bool
  collectedLate : Bool
  collectedCold : Bool
  overheated    : Bool
  deriving DecidableEq, Repr

/-- The hold statistics of an outcome record (R28, R64). -/
structure HoldStats where
  holdSeconds  : Nat
  minReading   : Option (Fin 255)
  belowTotal   : Nat
  belowLongest : Nat
  deriving DecidableEq, Repr

/-- An outcome record (R169); the statistics are absent for VOIDED. -/
structure OutcomeRecord where
  ref     : OrderRef
  locker  : LockerNo
  outcome : BookingEnd
  flags   : OutcomeFlags
  stats   : Option HoldStats
  deriving DecidableEq, Repr

/-- One entry of the pending-filing queue (R29). -/
structure FilingEntry where
  locker : LockerNo
  record : OutcomeRecord
  deriving DecidableEq, Repr

/-- One slot of PST (R34). -/
structure ProfileSlot where
  present : Bool
  valid   : Bool
  body    : Option Profile
  deriving DecidableEq, Repr

/-- HDF's bank-wide state (R68). -/
structure Hdf where
  /-- N -/
  elements    : Nat
  /-- S -/
  slotBudget  : Nat
  /-- N layers of sixteen places -/
  plan        : List (List (Option LockerNo))
  currentSlot : Option (Fin 16)
  windowTimer : Timer
  deriving DecidableEq, Repr

/-- Demand in the three classes, in W, or the grants in them. -/
structure Demand where
  d1 : Nat
  d2 : Nat
  d3 : Nat
  deriving DecidableEq, Repr

/-- The fields of a DEMAND frame apart from its check word (R88). -/
structure DemandFrame where
  /-- the urgency bit: `false` sends 0, urgent -/
  urgency : Bool
  station : Nat
  demand  : Demand
  free    : Nat
  pad     : Nat
  deriving DecidableEq, Repr

/-- HBP's sender (R90). -/
inductive Sender where
  | idle | waiting | arbitrating | sending
  deriving DecidableEq, Repr

/-- Whether the frame being driven is still the one in the slot (R90, R97). -/
inductive AttemptFrame where
  | none | current | superseded
  deriving DecidableEq, Repr

/-- What has become of the DEMAND of the running period (R90, R92). -/
inductive PeriodResult where
  | none | pending | sent | dropped
  deriving DecidableEq, Repr

/-- Where the receive path stands (R90). -/
inductive ReceivePath where
  | off | syncing | ready | inFrame | skipping
  deriving DecidableEq, Repr

/-- HBP (R90), the frame it is driving (R97), the cell values it keeps (R98), and the line as R87 judges it. -/
structure Hbp where
  slot            : Option DemandFrame
  attemptCount    : Nat
  sender          : Sender
  attemptFrame    : AttemptFrame
  driven          : Option DemandFrame
  periodResult    : PeriodResult
  path            : ReceivePath
  cellsReceived   : Nat
  cells           : List Bool
  framesReceived  : Nat
  framesDiscarded : Nat
  erroredAttempts : Nat
  failedWindows   : Nat
  lineIdle        : Bool
  deriving DecidableEq, Repr

/-- The station states (R104). -/
inductive Station where
  | starting | listening | joined | isolated | halted
  deriving DecidableEq, Repr

/-- A peer record (R105). -/
structure Peer where
  station : Nat
  demand  : Demand
  free    : Nat
  inLocal : Bool
  age     : Nat
  deriving DecidableEq, Repr

/-- PVT (R104). -/
structure Pvt where
  station     : Station
  /-- sorted by station number -/
  peers       : List Peer
  listenCount : Nat
  unsentRun   : Nat
  outOfRange  : Nat
  clashes     : Nat
  deriving DecidableEq, Repr

/-- The shed states (R119). -/
inductive Shed where
  | clear | warned | releasing | liftDue
  deriving DecidableEq, Repr

/-- FSC (R119), with the level of FEEDER-WARN (`true`: asserted). -/
structure Fsc where
  shed         : Shed
  releaseHold  : Timer
  feederBudget : Nat
  branchBudget : Option Nat
  allowance    : Nat
  feederWarn   : Bool
  deriving DecidableEq, Repr

/-- One entry of the load chain (R138). -/
structure ChainEntry where
  ref    : OrderRef
  locker : LockerNo
  deriving DecidableEq, Repr

/-- BKC (R138). -/
structure Bkc where
  active    : Bool
  entries   : List ChainEntry
  force     : Bool
  remaining : Nat
  skipped   : Nat
  deriving DecidableEq, Repr

/-- Where the receipt of a frame stands (R176, R158). -/
inductive Receiver where
  | hunting | length | body
  deriving DecidableEq, Repr

/-- The panel response codes (R158). -/
inductive PanelCode where
  | ok | badMessage | unknown | configFault | offer | notReady | busy | lockedOut | noMatch | opened | lapsed
  | wrongState | outOfRange | throttled
  deriving DecidableEq, Repr

/-- A panel response: the type echoed, the code and the field bytes (R158). -/
structure PanelResponse where
  type   : Byte
  code   : PanelCode
  fields : List Byte
  deriving DecidableEq, Repr

/-- PNL (R159, R158). -/
structure Pnl where
  claim         : Option LockerNo
  claimTimer    : Timer
  missCount     : Nat
  throttled     : Bool
  throttleTimer : Timer
  receiver      : Receiver
  expected      : Nat
  gapTimer      : Timer
  kept          : List Byte
  sending       : Option PanelResponse
  deriving DecidableEq, Repr

/-- OCL (R170, R174). -/
structure Ocl where
  records : List OutcomeRecord
  attn    : Bool
  deriving DecidableEq, Repr

/-- The service response codes (R175). -/
inductive RespCode where
  | ok | badFrame | unknown | configFault | outOfRange | profileInvalid | dupOrder | dupCode | full | notFound
  | wrongState | busy | notReady | hideLocked | trayPresent | filed | empty | opened
  deriving DecidableEq, Repr

/-- A service response: the command code echoed, the discarded flag it carries, the code and the field bytes (R175). -/
structure ServiceResponse where
  command   : Byte
  discarded : Bool
  code      : RespCode
  fields    : List Byte
  deriving DecidableEq, Repr

/-- SVL (R176, R177). `inProgress` is the command in progress, held as the response being sent to it. -/
structure Svl where
  receiver    : Receiver
  expected    : Nat
  gapTimer    : Timer
  kept        : List Byte
  inProgress  : Option ServiceResponse
  discarded   : Bool
  rate        : LineRate
  pendingRate : Option LineRate
  deriving DecidableEq, Repr

/-- The fault reasons of R184. -/
inductive FaultReason where
  | noMemory | check | station | heater | overtemp | margin | shed | staff | globalRange | localRange
  deriving DecidableEq, Repr

/-- CFL (R183). -/
structure Cfl where
  image  : Option (List Byte)
  fault  : Option FaultReason
  config : Option Config
  deriving DecidableEq, Repr

/-- Expiries that fell due at this very instant and that another event, taken first, has kept from happening by
restarting their timer (R83; log 22). The commands that report them, if they still wait, find nothing to do. -/
structure Overtaken where
  windowStart  : Bool
  slotBoundary : Bool
  claim        : Bool
  panelGap     : Bool
  serviceGap   : Bool
  deriving DecidableEq, Repr

/-- The whole part, and the commands waiting for it. -/
structure State where
  lockers : Vector Locker 16
  filing  : List FilingEntry
  slots   : Vector ProfileSlot 8
  hdf     : Hdf
  hbp     : Hbp
  pvt     : Pvt
  fsc     : Fsc
  bkc     : Bkc
  pnl     : Pnl
  ocl     : Ocl
  svl     : Svl
  cfl     : Cfl
  /-- the model's own, emptied by the passing of time (log 22) -/
  overtaken : Overtaken
  /-- commands not yet taken, the first to be taken at the head -/
  pending : List Instr
  deriving DecidableEq, Repr

/-- The manual gives the part no event that stops it: what goes wrong is answered, counted, or ends in HALTED (R184),
so no reason is declared (log 21). -/
inductive Fault
  deriving DecidableEq, Repr

/-- Raised by an arm of `exec` that has no meaning yet, and by nothing else; no arm raises it (log 21). A refusal is
safe: nothing can be proved of what follows it. -/
inductive Refusal where
  /-- a command without a meaning; safe -/
  | notModelled (mnemonic : String)
  deriving DecidableEq, Repr

/-- What every meaning answers. -/
abbrev Result := Host.Outcome State Fault Refusal

/-- A locker record after reset (R2, R51, R68). The two pin levels are those of a shut door and an empty shelf
(DESIGN CHOICE, unsafe, log 6). -/
def Locker.reset : Locker where
  state := .out
  hidden := false
  orderRef := none
  pickupCode := none
  profile := none
  loadedCold := false
  lockoutCause := none
  deferredCause := none
  recordPending := false
  ajar := false
  tamper := false
  latch := .locked
  unlatchTimer := none
  ajarTimer := none
  indicator := .off
  lampPhase := 0
  ring0 := .fault
  ring1 := .fault
  ring2 := .fault
  reading := .fault
  holdElapsed := 0
  minReading := none
  belowRun := 0
  belowTotal := 0
  belowLongest := 0
  faultRun := 0
  overheat := false
  call := false
  cls := .none
  request := 0
  duty := 0
  heaterOn := false
  doorShut := true
  trayPresent := false

/-- A profile slot after reset (R34). -/
def ProfileSlot.reset : ProfileSlot where
  present := false
  valid := false
  body := none

/-- R68. -/
def Hdf.reset : Hdf where
  elements := 0
  slotBudget := 0
  plan := []
  currentSlot := none
  windowTimer := none

/-- R90. The line stands idle (DESIGN CHOICE, unsafe, log 11). -/
def Hbp.reset : Hbp where
  slot := none
  attemptCount := 0
  sender := .idle
  attemptFrame := .none
  driven := none
  periodResult := .none
  path := .off
  cellsReceived := 0
  cells := []
  framesReceived := 0
  framesDiscarded := 0
  erroredAttempts := 0
  failedWindows := 0
  lineIdle := true

/-- R104. -/
def Pvt.reset : Pvt where
  station := .starting
  peers := []
  listenCount := 0
  unsentRun := 0
  outOfRange := 0
  clashes := 0

/-- R119. FEEDER-WARN stands released (DESIGN CHOICE, unsafe, log 6). -/
def Fsc.reset : Fsc where
  shed := .clear
  releaseHold := none
  feederBudget := 0
  branchBudget := some 0
  allowance := 0
  feederWarn := false

/-- R138. -/
def Bkc.reset : Bkc where
  active := false
  entries := []
  force := false
  remaining := 0
  skipped := 0

/-- R159, R158. -/
def Pnl.reset : Pnl where
  claim := none
  claimTimer := none
  missCount := 0
  throttled := false
  throttleTimer := none
  receiver := .hunting
  expected := 0
  gapTimer := none
  kept := []
  sending := none

/-- R170, R174. -/
def Ocl.reset : Ocl where
  records := []
  attn := false

/-- R176. -/
def Svl.reset : Svl where
  receiver := .hunting
  expected := 0
  gapTimer := none
  kept := []
  inProgress := none
  discarded := false
  rate := .r19200
  pendingRate := none

/-- R183. -/
def Cfl.reset : Cfl where
  image := none
  fault := none
  config := none

/-- No expiry has been overtaken (log 22). -/
def Overtaken.reset : Overtaken where
  windowStart := false
  slotBoundary := false
  claim := false
  panelGap := false
  serviceGap := false

/-- The part right after power-on, with no command waiting. -/
def State.reset : State where
  lockers := Vector.replicate 16 Locker.reset
  filing := []
  slots := Vector.replicate 8 ProfileSlot.reset
  hdf := Hdf.reset
  hbp := Hbp.reset
  pvt := Pvt.reset
  fsc := Fsc.reset
  bkc := Bkc.reset
  pnl := Pnl.reset
  ocl := Ocl.reset
  svl := Svl.reset
  cfl := Cfl.reset
  overtaken := Overtaken.reset
  pending := []

end Sys2Proof.Machine
end

