-- ==== Sys2Proof/Machine/Profiles.lean ====
section
/-! DEFINITION. PST: what a stored profile answers (chapter 2). -/

namespace Sys2Proof.Machine

/-- The durations of the time codes 0..15, in s (R36). -/
def durations : List Nat := [15, 30, 45, 60, 90, 120, 180, 240, 300, 420, 600, 900, 1200, 1800, 2700, 3600]

/-- The duration of a segment in s (R36). -/
def segmentSeconds (g : Segment) : Nat := durations.getD g.timeCode.val 0

/-- The level of a level code or floor code, in hd (R37, R40). -/
def levelOf (code : Fin 32) : Nat := 80 + 4 * code.val

/-- The offset o in hd, −7..+7 (R38). -/
def offsetOf (p : Profile) : Int := if p.offsetMinus then -(p.offsetAmount.val : Int) else p.offsetAmount.val

/-- The setpoint of segment `k` (0 for segment 1), in hd (R39). -/
def setpointOf (p : Profile) (k : Fin 12) : Nat :=
  (max 80 (min 204 ((levelOf p.segments[k].levelCode : Int) + offsetOf p))).toNat

/-- The cumulative end of the first `k` segments, in s (R36). -/
def endOf (p : Profile) (k : Nat) : Nat := ((p.segments.toList.take k).map segmentSeconds).sum

/-- The active segment (0 for segment 1) at a hold elapsed: the first whose end lies beyond it, else the last (R43). -/
def activeSegment (p : Profile) (elapsed : Nat) : Fin 12 :=
  ((List.finRange 12).find? fun k => decide (elapsed < endOf p (k.val + 1))).getD 11

/-- The active segment's setpoint at a hold elapsed (R44). -/
def activeSetpoint (p : Profile) (elapsed : Nat) : Nat := setpointOf p (activeSegment p elapsed)

/-- The preheat setpoint: segment 1's (R44). -/
def preheatSetpoint (p : Profile) : Nat := setpointOf p 0

/-- The floor in hd (R40). -/
def floorOf (p : Profile) : Nat := levelOf p.floorCode

/-- The grace in s (R41). -/
def graceOf (p : Profile) : Nat := 30 * p.graceCode.val

/-- The hold limit in s (R41). -/
def holdLimitOf (p : Profile) : Nat := p.holdLimit * 60

/-- The lower margin of the band in hd (R42). -/
def lowerMargin (p : Profile) : Nat := [2, 4, 6, 8].getD p.bandCode.val 0

/-- The upper margin of the band in hd (R42). -/
def upperMargin (p : Profile) : Nat := [0, 1, 2, 2].getD p.bandCode.val 0

/-- Conditions 2 to 4 of validity, against an overtemperature limit (R46). -/
def profileSound (p : Profile) (overtemp : Nat) : Bool :=
  decide (1 ≤ p.holdLimit) && decide (p.holdLimit ≤ 240)
    && (List.finRange 12).all fun k =>
      decide (floorOf p + 5 ≤ setpointOf p k) && decide (setpointOf p k < overtemp)

/-- A slot as PST stores and judges it (R35, R46). -/
def storeSlot (present : Bool) (p : Profile) (overtemp : Nat) : ProfileSlot where
  present := present
  valid := present && profileSound p overtemp
  body := some p

/-- The profile of a locker that holds a profile number (R47: it is always present; log 15). -/
def State.profileOf (s : State) (l : Locker) : Profile :=
  match l.profile with
  | some p => (s.slots[p]).body.getD Profile.unread
  | none => Profile.unread

/-- The setpoint given for a locker by its state (R44). -/
def State.setpointFor (s : State) (l : Locker) : Option Nat :=
  match l.state with
  | .booked | .loading => some (preheatSetpoint (s.profileOf l))
  | .holding | .opened => some (activeSetpoint (s.profileOf l) l.holdElapsed)
  | .out | .free | .lockout | .clearing | .filing => none

end Sys2Proof.Machine
end

