-- ==== Sys2Proof/Machine/Flags.lean ====
section
/-! DEFINITION. Every flag and pattern that the manual computes from other state: the indicator, heater eligibility, the
ready test, the flags of an outcome record, and saturation. -/

namespace Sys2Proof.Machine

/-- One more, staying at 65 535 (00_scope section 5, "saturates"). -/
def satInc (n : Nat) : Nat := min 65535 (n + 1)

/-- The indicator a state shows without an override (1.2). -/
def LockerState.pattern : LockerState → Indicator
  | .out | .free | .booked | .filing => .off
  | .holding => .steady
  | .lockout => .slow
  | .loading | .opened | .clearing => .fast

/-- The indicator of a locker: the ajar override, the tamper override, else the state's pattern (R5). -/
def Locker.pattern (l : Locker) : Indicator :=
  if l.ajar then .fast else if l.tamper then .slow else l.state.pattern

/-- Sets the indicator to its pattern; a pattern that changes begins with its lit phase (R5). -/
def Locker.refresh (l : Locker) : Locker :=
  { l with
    indicator := l.pattern
    lampPhase := if l.indicator = l.pattern then l.lampPhase else 0 }

/-- Whether the lamp is lit at this moment (R5). -/
def Locker.lampLit (l : Locker) : Bool :=
  match l.indicator with
  | .off => false
  | .steady => true
  | .slow => decide (l.lampPhase < 500)
  | .fast => decide (l.lampPhase % 250 < 125)

/-- A state in which a locker may have its heater on (1.2, R6). -/
def LockerState.heatable : LockerState → Bool
  | .booked | .holding => true
  | .out | .free | .loading | .opened | .lockout | .clearing | .filing => false

/-- A reading that keeps a locker eligible: valid and below the overtemperature limit (R6, R63). -/
def readingEligible (r : Reading) (overtemp : Nat) : Bool :=
  match r with
  | .fault => false
  | .valid v => decide (v.val < overtemp)

/-- The four conditions of R6. -/
def Locker.eligible (l : Locker) (overtemp : Nat) : Bool :=
  l.state.heatable && l.doorShut && readingEligible l.reading overtemp

/-- The ready test of R45. -/
def State.ready (s : State) (l : Locker) : Bool :=
  match l.state with
  | .booked | .loading =>
    match l.reading with
    | .fault => false
    | .valid v => decide (preheatSetpoint (s.profileOf l) ≤ v.val + 2)
  | .out | .free | .holding | .opened | .lockout | .clearing | .filing => false

/-- The flags of an outcome record built from a locker at its end event (R28). -/
def outcomeFlags (l : Locker) (e : BookingEnd) : OutcomeFlags :=
  match e with
  | .voided => ⟨false, false, false, false⟩
  | .collected =>
    { loadedCold := l.loadedCold
      collectedLate := decide (l.deferredCause = some .expired)
      collectedCold := decide (l.deferredCause = some .cold) || decide (0 < l.belowTotal)
      overheated := l.overheat }
  | .expired | .cold | .sensor | .tamper | .cancelled => ⟨l.loadedCold, false, false, l.overheat⟩

/-- The hold statistics of an outcome record (R28, R64). -/
def outcomeStats (l : Locker) (e : BookingEnd) : Option HoldStats :=
  match e with
  | .voided => none
  | .collected | .expired | .cold | .sensor | .tamper | .cancelled =>
    some ⟨l.holdElapsed, l.minReading, l.belowTotal, l.belowLongest⟩

/-- The outcome record of a locker at its end event (R28, R169). A locker that ends a booking holds its ref (log 15). -/
def outcomeRecord (n : LockerNo) (l : Locker) (e : BookingEnd) : OutcomeRecord where
  ref := l.orderRef.getD 0
  locker := n
  outcome := e
  flags := outcomeFlags l e
  stats := outcomeStats l e

/-- The lockout cause that a supervision cause gives (R19, R22). -/
def ScanCause.cause : ScanCause → Cause
  | .expired => .expired
  | .cold => .cold
  | .sensor => .sensor

/-- The outcome that a supervision cause gives (R28). -/
def ScanCause.bookingEnd : ScanCause → BookingEnd
  | .expired => .expired
  | .cold => .cold
  | .sensor => .sensor

/-- Whether the hold fields of a locker are reported (R65). -/
def Locker.holdReported (l : Locker) : Bool :=
  match l.state with
  | .holding | .opened => true
  | .lockout | .clearing | .filing => l.orderRef.isSome
  | .out | .free | .booked | .loading => false

/-- The class as a number; 0 stands for none (R181 byte 20). -/
def HeatClass.number : HeatClass → Nat
  | .none => 0
  | .class1 => 1
  | .class2 => 2
  | .class3 => 3

/-- The shed is in force in every shed state but CLEAR (R119). -/
def Shed.inForce : Shed → Bool
  | .clear => false
  | .warned | .releasing | .liftDue => true

/-- The station states from LISTENING on, in which the part runs. -/
def Station.running : Station → Bool
  | .listening | .joined | .isolated => true
  | .starting | .halted => false

end Sys2Proof.Machine
end

