-- ==== Sys2Proof/Decode.lean ====
section
/-! DEFINITION. The rows of spec/opcode_table.json give no bits, so no word spells a command (`decodeTableWord`). What
the part itself decodes are the frames of its two serial lines: this file holds the judgement of an arrived service
frame (R175, R177) and panel frame (R158), and the frames that carry each command and message. A frame is written as
the bytes that follow SYNC: the length byte first, the check byte last. -/

namespace Sys2Proof

/-- No row of the table gives bits. -/
def decodeTableWord (_nbits _w : Nat) : Option Instr := none

/-- SYNC, the first byte of every frame (R175). -/
def syncByte : Byte := 165

/-- R175: the sum of every byte of the frame, SYNC and check included. -/
def byteSum (bytes : List Byte) : Nat := bytes.foldl (fun n b => n + b.toNat) 0

/-- R175, R177: the sum of every byte, SYNC counted in, is a multiple of 256. -/
def sumGood (kept : List Byte) : Bool := (byteSum (syncByte :: kept)) % 256 == 0

/-- The check byte that ends a frame whose bytes after SYNC are `bytes` (R175). -/
def checkByte (bytes : List Byte) : Byte := BitVec.ofNat 8 (256 - byteSum (syncByte :: bytes) % 256)

/-- Three bytes as one number, most significant first (R175). -/
def join3 (a b c : Byte) : Code := BitVec.ofNat 24 (a.toNat * 65536 + b.toNat * 256 + c.toNat)

/-- Four bytes as one number, most significant first (R175). -/
def join4 (a b c d : Byte) : OrderRef :=
  BitVec.ofNat 32 (a.toNat * 16777216 + b.toNat * 65536 + c.toNat * 256 + d.toNat)

/-- A code as three bytes, most significant first. -/
def split3 (c : Code) : List Byte :=
  [BitVec.ofNat 8 (c.toNat / 65536), BitVec.ofNat 8 (c.toNat / 256), BitVec.ofNat 8 c.toNat]

/-- An order ref as four bytes, most significant first. -/
def split4 (r : OrderRef) : List Byte :=
  [BitVec.ofNat 8 (r.toNat / 16777216), BitVec.ofNat 8 (r.toNat / 65536), BitVec.ofNat 8 (r.toNat / 256),
    BitVec.ofNat 8 r.toNat]

/-- The refs of a LOAD, four bytes each; `none` where the bytes do not come out even. -/
def joinRefs : List Byte → Option (List OrderRef)
  | [] => some []
  | a :: b :: c :: d :: rest => (joinRefs rest).map (join4 a b c d :: ·)
  | _ :: _ => none

/-- R175: the command that a command code and its fields spell; `none` where the length does not fit. -/
def serviceFields (code : Nat) (fields : List Byte) : Option ServiceCmd :=
  match code with
  | 1 =>
    match fields with
    | [a, b, c, d, e, f, g, p] => some (.book (join4 a b c d) (join3 e f g) p none)
    | [a, b, c, d, e, f, g, p, l] => some (.book (join4 a b c d) (join3 e f g) p (some l))
    | _ => none
  | 2 =>
    match fields with
    | count :: force :: rest =>
      match joinRefs rest with
      | some refs => if refs.length = count.toNat then some (.load (force != 0) refs) else none
      | none => none
    | _ => none
  | 3 => match fields with | [] => some .abortLoad | _ => none
  | 4 => match fields with | [a, b, c, d] => some (.cancel (join4 a b c d)) | _ => none
  | 5 => match fields with | [a, b, c, d] => some (.queryOrder (join4 a b c d)) | _ => none
  | 6 => match fields with | [l] => some (.queryLocker l) | _ => none
  | 7 => match fields with | [] => some .queryBank | _ => none
  | 8 => match fields with | [] => some .fetch | _ => none
  | 9 => match fields with | [a, b, c, d] => some (.release (join4 a b c d)) | _ => none
  | 10 => match fields with | [l] => some (.hideLocker l) | _ => none
  | 11 => match fields with | [l] => some (.showLocker l) | _ => none
  | 12 => match fields with | [l] => some (.staffOpen l) | _ => none
  | _ => none

/-- The code byte of a frame of which `kept` has been received (length byte first), if it was received. -/
def codeByte (kept : List Byte) : Option Byte := kept[1]?

/-- An abandoned service frame: it echoes code 0 where the code byte was never received (R177). -/
def abandonedService (kept : List Byte) : FrameFault :=
  match codeByte kept with
  | some c => .abandoned c
  | none => .noCode

/-- R177: the judgement of a service frame that arrived unabandoned, orders 2 to 4. -/
def judgeService (kept : List Byte) : Except FrameFault ServiceCmd :=
  match codeByte kept with
  | none => .error .noCode
  | some c =>
    if !sumGood kept then .error (.badSum c)
    else if c.toNat = 0 ∨ 12 < c.toNat then .error (.unknownCode c)
    else
      match serviceFields c.toNat ((kept.drop 2).dropLast) with
      | some cmd => .ok cmd
      | none => .error (.badLength c)

/-- R175: the command code of each command. -/
def ServiceCmd.code : ServiceCmd → Byte
  | .book .. => 1
  | .load .. => 2
  | .abortLoad => 3
  | .cancel _ => 4
  | .queryOrder _ => 5
  | .queryLocker _ => 6
  | .queryBank => 7
  | .fetch => 8
  | .release _ => 9
  | .hideLocker _ => 10
  | .showLocker _ => 11
  | .staffOpen _ => 12

/-- R175: the field bytes of each command. -/
def ServiceCmd.fields : ServiceCmd → List Byte
  | .book ref code profile preferred => split4 ref ++ split3 code ++ [profile] ++ preferred.toList
  | .load force refs =>
    [BitVec.ofNat 8 refs.length, if force then 1 else 0] ++ refs.flatMap split4
  | .abortLoad => []
  | .cancel ref => split4 ref
  | .queryOrder ref => split4 ref
  | .queryLocker l => [l]
  | .queryBank => []
  | .fetch => []
  | .release ref => split4 ref
  | .hideLocker l => [l]
  | .showLocker l => [l]
  | .staffOpen l => [l]

/-- The bytes after SYNC of a frame with this first body byte and these fields: length, body, check (R175). -/
def frameBytes (first : Byte) (fields : List Byte) : List Byte :=
  let bytes := BitVec.ofNat 8 (fields.length + 1) :: first :: fields
  bytes ++ [checkByte bytes]

/-- The frame of a service command, as the order system sends it after SYNC. -/
def ServiceCmd.frame (c : ServiceCmd) : List Byte := frameBytes c.code c.fields

/-- R158: the message that a type and its fields spell; `none` where the length does not fit. -/
def panelFields (type : Nat) (fields : List Byte) : Option PanelMsg :=
  match type with
  | 1 => match fields with | [a, b, c] => some (.present (join3 a b c)) | _ => none
  | 2 => match fields with | [l] => some (.confirm l) | _ => none
  | 3 => match fields with | [] => some .abandon | _ => none
  | 4 => match fields with | [a, b, c, l] => some (.presentStaff (join3 a b c) l) | _ => none
  | _ => none

/-- An abandoned panel frame: it echoes type 0 where the type byte was never received (R158). -/
def abandonedPanel (kept : List Byte) : PanelFault :=
  match codeByte kept with
  | some t => .abandoned t
  | none => .noType

/-- R157, R158: the judgement of a panel frame that arrived unabandoned. -/
def judgePanel (kept : List Byte) : Except PanelFault PanelMsg :=
  match codeByte kept with
  | none => .error .noType
  | some t =>
    if !sumGood kept then .error (.badSum t)
    else if t.toNat = 0 ∨ 4 < t.toNat then .error (.unknownType t)
    else
      match panelFields t.toNat ((kept.drop 2).dropLast) with
      | some m => .ok m
      | none => .error (.badLength t)

/-- R158: the type code of each message. -/
def PanelMsg.type : PanelMsg → Byte
  | .present _ => 1
  | .confirm _ => 2
  | .abandon => 3
  | .presentStaff .. => 4

/-- R158: the field bytes of each message. -/
def PanelMsg.fields : PanelMsg → List Byte
  | .present code => split3 code
  | .confirm l => [l]
  | .abandon => []
  | .presentStaff code l => split3 code ++ [l]

/-- The frame of a panel message, as the panel sends it after SYNC. -/
def PanelMsg.frame (m : PanelMsg) : List Byte := frameBytes m.type m.fields

end Sys2Proof
end

