-- ==== Sys2Proof/Machine/Operands.lean ====
section
/-! DEFINITION. Reading and writing the layouts that cross a port: numbers as bytes and as cells, the cells of a DEMAND
frame, the fields of the configuration image, and the frames of the responses. -/

namespace Sys2Proof.Machine

/-- A number 0..65 535 as two bytes, most significant first (R175). -/
def bytes2 (n : Nat) : List Byte := [BitVec.ofNat 8 (n / 256), BitVec.ofNat 8 n]

/-- One byte of a response. -/
def byte1 (n : Nat) : Byte := BitVec.ofNat 8 n

/-- Flags packed into one byte, bit 0 first. -/
def packBits : List Bool → Nat
  | [] => 0
  | b :: rest => b.toNat + 2 * packBits rest

/-- The ones'-complement sum of two 16-bit words (R89). -/
def onesAdd (a b : Nat) : Nat := if 65535 < a + b then a + b - 65536 + 1 else a + b

/-- The ones'-complement sum of a list of 16-bit words (R89). -/
def onesSum (words : List Nat) : Nat := words.foldl onesAdd 0

/-- The `w` low bits of a number, most significant first, as the cells carry them (R88). -/
def toCells : (w n : Nat) → List Bool
  | 0, _ => []
  | w + 1, n => decide (n / 2 ^ w % 2 = 1) :: toCells w n

/-- The number that cells spell, most significant first (R88). -/
def ofCells (cells : List Bool) : Nat := cells.foldl (fun n b => 2 * n + b.toNat) 0

/-- The number that the cells `first` to `first + width - 1` spell, cells counted from 1 (R88). -/
def cellField (cells : List Bool) (first width : Nat) : Nat := ofCells ((cells.drop (first - 1)).take width)

/-- The header of a frame as a number: urgency × 32 + station number (R88). -/
def DemandFrame.header (f : DemandFrame) : Nat := f.urgency.toNat * 32 + f.station

/-- The check word of a frame (R89). -/
def DemandFrame.checkWord (f : DemandFrame) : Nat :=
  onesSum [f.header, f.demand.d1, f.demand.d2, f.demand.d3, f.free * 8 + f.pad]

/-- The 78 cells of a frame (R88). -/
def DemandFrame.cells (f : DemandFrame) : List Bool :=
  [f.urgency] ++ toCells 5 f.station ++ toCells 16 f.demand.d1 ++ toCells 16 f.demand.d2
    ++ toCells 16 f.demand.d3 ++ toCells 5 f.free ++ toCells 3 f.pad ++ toCells 16 f.checkWord

/-- The fields that the cells of a frame carry (R88), as received. -/
def DemandFrame.ofCells (cells : List Bool) : DemandFrame where
  urgency := decide (cellField cells 1 1 = 1)
  station := cellField cells 2 5
  demand := ⟨cellField cells 7 16, cellField cells 23 16, cellField cells 39 16⟩
  free := cellField cells 55 5
  pad := cellField cells 60 3

/-- The check word that the cells of a frame carry. -/
def checkOfCells (cells : List Bool) : Nat := cellField cells 63 16

/-- The 250 bytes that the read clocks out of a memory that drives `image` and then lets go of CM-DA: an undriven byte
reads 255 (R183; log 8). -/
def imageRead (image : List Byte) : List Byte := image.take 250 ++ List.replicate (250 - image.length) 255

/-- Byte `i` of the image, counted from 1 as in R182. -/
def imageByte (image : List Byte) (i : Nat) : Nat := (image.getD (i - 1) 255).toNat

/-- The two-byte number at byte `i` of the image (R182). -/
def imageWord (image : List Byte) (i : Nat) : Nat := imageByte image i * 256 + imageByte image (i + 1)

/-- Bytes taken in pairs as two-byte numbers (R184 check 2). -/
def wordsOf : List Byte → List Nat
  | a :: b :: rest => (a.toNat * 256 + b.toNat) :: wordsOf rest
  | _ => []

/-- The rate that a rate code selects (R182 byte 24). -/
def rateOfCode (code : Nat) : LineRate :=
  match code % 4 with
  | 0 => .r9600
  | 1 => .r19200
  | 2 => .r38400
  | _ => .r57600

/-- The configuration fields of an image (R182). -/
def configOfImage (image : List Byte) : Config where
  station := imageByte image 3
  globalBase := imageByte image 4 % 32
  globalLimit := imageByte image 5 % 32
  localBase := imageByte image 6 % 32
  localLimit := imageByte image 7 % 32
  feederBudget := imageWord image 8
  branchBudget := imageWord image 10
  margin := imageByte image 12
  shed := imageByte image 13
  fallback := imageWord image 14
  lonePermitted := decide (imageByte image 16 % 2 = 1)
  hideLock := decide (imageByte image 16 / 2 % 2 = 1)
  heaterCode := imageByte image 17 % 64
  overtemp := imageByte image 18
  hideMask := BitVec.ofNat 16 (imageWord image 19)
  staffCode := BitVec.ofNat 24 (imageByte image 21 * 65536 + imageWord image 22)
  rate := rateOfCode (imageByte image 24)

/-- The contents of profile `p` of an image: 28 bytes from byte 25 + 28 p (R182). -/
def profileOfImage (image : List Byte) (p : ProfileNo) : Profile :=
  let at_ := fun k => imageByte image (24 + 28 * p.val + k)
  { segments := Vector.ofFn fun k : Fin 12 =>
      ⟨Fin.ofNat 16 (at_ (2 * k.val + 1)), Fin.ofNat 32 (at_ (2 * k.val + 2))⟩
    offsetMinus := decide (at_ 25 / 8 % 2 = 1)
    offsetAmount := Fin.ofNat 8 (at_ 25)
    floorCode := Fin.ofNat 32 (at_ 26)
    holdLimit := at_ 27
    graceCode := Fin.ofNat 16 (at_ 28)
    bandCode := Fin.ofNat 4 (at_ 28 / 16) }

/-- The present flag of profile `p` of an image: bit 7 of its byte 28 (R182). -/
def presentInImage (image : List Byte) (p : ProfileNo) : Bool :=
  decide (imageByte image (24 + 28 * p.val + 28) / 128 = 1)

/-- The locker number that a byte names, if it is a locker number 0..15. -/
def lockerOfByte (b : Byte) : Option LockerNo := if h : b.toNat < 16 then some ⟨b.toNat, h⟩ else none

/-- The profile number that a byte names, if it is 0..7. -/
def profileOfByte (b : Byte) : Option ProfileNo := if h : b.toNat < 8 then some ⟨b.toNat, h⟩ else none

/-- The response code as a number (R175). -/
def RespCode.number : RespCode → Nat
  | .ok => 0
  | .badFrame => 1
  | .unknown => 2
  | .configFault => 3
  | .outOfRange => 4
  | .profileInvalid => 5
  | .dupOrder => 6
  | .dupCode => 7
  | .full => 8
  | .notFound => 9
  | .wrongState => 10
  | .busy => 11
  | .notReady => 12
  | .hideLocked => 13
  | .trayPresent => 14
  | .filed => 15
  | .empty => 16
  | .opened => 17

/-- The status byte of a service response: the code, and the discarded flag in bit 7 (R175). -/
def ServiceResponse.status (r : ServiceResponse) : Nat := r.code.number + 128 * r.discarded.toNat

/-- The bytes of a service response, SYNC first and check byte last (R175). -/
def ServiceResponse.bytes (r : ServiceResponse) : List Byte :=
  syncByte :: frameBytes r.command (byte1 r.status :: r.fields)

/-- The panel response code as a number (R158). -/
def PanelCode.number : PanelCode → Nat
  | .ok => 0
  | .badMessage => 1
  | .unknown => 2
  | .configFault => 3
  | .offer => 4
  | .notReady => 5
  | .busy => 6
  | .lockedOut => 7
  | .noMatch => 8
  | .opened => 9
  | .lapsed => 10
  | .wrongState => 11
  | .outOfRange => 12
  | .throttled => 13

/-- The bytes of a panel response, SYNC first and check byte last (R158). -/
def PanelResponse.bytes (r : PanelResponse) : List Byte :=
  syncByte :: frameBytes r.type (byte1 r.code.number :: r.fields)

end Sys2Proof.Machine
end

