-- ==== Sys2Proof/Machine/Ops.lean ====
section
/-! DEFINITION. The operations that several commands share: access to a locker record and to a block's state, the passing
of time, the ends of bookings, the claim, the load chain, and the start of a response. -/

namespace Sys2Proof.Machine

/-! ### Access -/

/-- The record of a locker. -/
def State.locker (s : State) (n : LockerNo) : Locker := s.lockers[n]

/-- Replaces the record of a locker as it stands. -/
def State.setLocker (s : State) (n : LockerNo) (l : Locker) : State := { s with lockers := s.lockers.set n l }

/-- Replaces the record of a locker and brings its indicator to its pattern (R5). Every LKT event ends with it. -/
def State.putLocker (s : State) (n : LockerNo) (l : Locker) : State := s.setLocker n l.refresh

/-- Replaces every record by a function of its number and itself. -/
def State.eachLocker (s : State) (f : LockerNo → Locker → Locker) : State :=
  { s with lockers := Vector.ofFn fun n => f n (s.locker n) }

/-- The locker numbers, lowest first. -/
def allLockers : List LockerNo := List.finRange 16

def State.withFiling (s : State) (x : List FilingEntry) : State := { s with filing := x }
def State.withSlots (s : State) (x : Vector ProfileSlot 8) : State := { s with slots := x }
def State.withHdf (s : State) (x : Hdf) : State := { s with hdf := x }
def State.withHbp (s : State) (x : Hbp) : State := { s with hbp := x }
def State.withPvt (s : State) (x : Pvt) : State := { s with pvt := x }
def State.withFsc (s : State) (x : Fsc) : State := { s with fsc := x }
def State.withBkc (s : State) (x : Bkc) : State := { s with bkc := x }
def State.withPnl (s : State) (x : Pnl) : State := { s with pnl := x }
def State.withOcl (s : State) (x : Ocl) : State := { s with ocl := x }
def State.withSvl (s : State) (x : Svl) : State := { s with svl := x }
def State.withCfl (s : State) (x : Cfl) : State := { s with cfl := x }
def State.withOvertaken (s : State) (x : Overtaken) : State := { s with overtaken := x }
def State.withPending (s : State) (x : List Instr) : State := { s with pending := x }

/-- The configuration fields (log 15). -/
def State.cfg (s : State) : Config := s.cfl.config.getD Config.unread

/-- The part runs: LISTENING, JOINED or ISOLATED. -/
def State.running (s : State) : Bool := s.pvt.station.running

/-- The number of lockers in FREE (R7). -/
def State.freeCount (s : State) : Nat := (allLockers.filter fun n => (s.locker n).state == .free).length

/-- The TP lines as they stand at an event that reads them (R8; log 7). -/
def State.sampleTrays (s : State) (trays : Lines) : State :=
  s.eachLocker fun n l => { l with trayPresent := trays.getLsbD n.val }

/-! ### Time (log 2, log 3) -/

/-- The ends of the timers, in ms: R9, R10, R163, R167, R133, R69, R177. -/
def unlatchEnd : Nat := 20000
def ajarEnd : Nat := 120000
def claimEnd : Nat := 15000
def throttleEnd : Nat := 60000
def releaseEnd : Nat := 10000
def windowEnd : Nat := 2000
def gapEnd : Nat := 10

/-- The length of a slot in ms (R69). -/
def slotTime : Nat := 125

/-- A running timer counts on to its end at most; an idle one stays idle. -/
def Timer.tick (limit d : Nat) (t : Timer) : Timer := t.map fun v => min limit (v + d)

/-- A running timer stands at its end: its expiry is due at this instant, if it has not been taken. -/
def Timer.due (limit : Nat) (t : Timer) : Bool := t.any fun v => decide (limit ≤ v)

/-- The time that passes at a locker: its two timers and its lamp. -/
def Locker.tick (d : Nat) (l : Locker) : Locker :=
  { l with
    unlatchTimer := l.unlatchTimer.tick unlatchEnd d
    ajarTimer := l.ajarTimer.tick ajarEnd d
    lampPhase := (l.lampPhase + d) % 1000 }

/-- `d` milliseconds pass, and nothing else happens. What was overtaken at an instant is over with it (log 22). -/
def State.advance (s : State) (d : Nat) : State :=
  if d = 0 then s
  else
    { s.eachLocker fun _ l => l.tick d with
      hdf := { s.hdf with windowTimer := s.hdf.windowTimer.tick windowEnd d }
      fsc := { s.fsc with releaseHold := s.fsc.releaseHold.tick releaseEnd d }
      pnl := { s.pnl with
        claimTimer := s.pnl.claimTimer.tick claimEnd d
        throttleTimer := s.pnl.throttleTimer.tick throttleEnd d
        gapTimer := s.pnl.gapTimer.tick gapEnd d }
      svl := { s.svl with gapTimer := s.svl.gapTimer.tick gapEnd d }
      overtaken := Overtaken.reset }

/-- What an expiry command does: where the timer runs, the time it still lacks passes and then `expire` is done; an
idle timer does not expire and nothing changes (log 3, log 14). -/
def State.onExpiry (s : State) (t : Timer) (limit : Nat) (expire : State → State) : State :=
  match t with
  | some v => expire (s.advance (limit - v))
  | none => s

/-! ### Heat and claim -/

/-- R80: the locker's heater goes off and its duty is 0 for the rest of the window. -/
def Locker.switchOff (l : Locker) : Locker := { l with heaterOn := false, duty := 0 }

/-- R163: the claim ends and its timer is idle. -/
def State.endClaim (s : State) : State := s.withPnl { s.pnl with claim := none, claimTimer := none }

/-- R24, R163: the report that a locker has left HOLDING ends a claim that names it. `was` is the state it left. -/
def State.leftHolding (s : State) (n : LockerNo) (was : LockerState) : State :=
  if was = .holding ∧ s.pnl.claim = some n then s.endClaim else s

/-! ### Transitions of a locker record -/

/-- The latch locks, both timers become idle and the ajar flag clears (R16, R21 to R23, R25, R27). -/
def Locker.relock (l : Locker) : Locker :=
  { l with latch := .locked, unlatchTimer := none, ajarTimer := none, ajar := false }

/-- A transition that releases the latch (R4, R9 to R11): with the door shut the unlatch timer starts, with the door
open the ajar timer starts, and the tamper flag is cleared. -/
def Locker.unlock (l : Locker) (st : LockerState) : Locker :=
  { l with
    state := st
    latch := .released
    tamper := false
    unlatchTimer := if l.doorShut then some 0 else none
    ajarTimer := if l.doorShut then none else some 0 }

/-- The locker record's side of a transition into LOCKOUT (R25). -/
def Locker.lockOut (l : Locker) (c : Cause) : Locker :=
  { l.relock.switchOff with state := .lockout, lockoutCause := some c, deferredCause := none }

/-- The record no longer carries a booking (R18, R30, R31). -/
def Locker.clearBooking (l : Locker) : Locker :=
  { l with orderRef := none, pickupCode := none, profile := none, loadedCold := false }

/-- R54: the hold starts. -/
def Locker.startHold (l : Locker) : Locker :=
  { l with
    holdElapsed := 0
    minReading := none
    belowRun := 0
    belowTotal := 0
    belowLongest := 0
    faultRun := 0
    overheat := false }

/-! ### Ends of bookings (1.8, chapter 10) -/

/-- R170, R174: the record joins the tail of the list, which is not empty then, so ATTN is asserted. -/
def Ocl.file (o : Ocl) (r : OutcomeRecord) : Ocl := { records := o.records ++ [r], attn := true }

/-- R30: OCL has room for a record. -/
def State.hasRoom (s : State) : Bool := decide (s.ocl.records.length < 8)

/-- R30, R171: the record of an end event is filed, and the locker gives up its booking, or it joins the tail of the
pending-filing queue. -/
def State.fileOrQueue (s : State) (n : LockerNo) (r : OutcomeRecord) : State :=
  if s.hasRoom then (s.putLocker n (s.locker n).clearBooking).withOcl (s.ocl.file r)
  else (s.putLocker n { s.locker n with recordPending := true }).withFiling (s.filing ++ [⟨n, r⟩])

/-- A booking ends in a lockout (R12, R13, R18, R19, R22, R23): the record is built from the locker as it stands, the
locker moves to LOCKOUT, PNL hears of it, and the record is filed or queued. -/
def State.endInLockout (s : State) (n : LockerNo) (c : Cause) (e : BookingEnd) : State :=
  let r := outcomeRecord n (s.locker n) e
  ((s.putLocker n ((s.locker n).lockOut c)).leftHolding n (s.locker n).state).fileOrQueue n r

/-- R21, R30: a meal has been collected; the locker moves to FREE where OCL has room and to FILING where it has not. -/
def State.endCollected (s : State) (n : LockerNo) : State :=
  let r := outcomeRecord n (s.locker n) .collected
  let st : LockerState := if s.hasRoom then .free else .filing
  (s.putLocker n { (s.locker n).relock with state := st, deferredCause := none }).fileOrQueue n r

/-- R31: the head of the pending-filing queue, if there is one, is filed and its locker updated. -/
def State.fileFromQueue (s : State) : State :=
  match s.filing with
  | [] => s
  | e :: rest =>
    let l := { (s.locker e.locker).clearBooking with recordPending := false }
    let l := if l.state = .filing then { l with state := .free, lockoutCause := none } else l
    ((s.putLocker e.locker l).withFiling rest).withOcl (s.ocl.file e.record)

/-! ### The load chain (8.1, 8.3) -/

/-- R138: the chain is active exactly while the list is non-empty, and remaining counts its entries. -/
def Bkc.withEntries (b : Bkc) (es : List ChainEntry) : Bkc :=
  { b with entries := es, remaining := es.length, active := !es.isEmpty }

/-- R15: the locker enters LOADING; under force it takes the loaded-cold flag where it is not ready. -/
def State.enterLoading (s : State) (n : LockerNo) : State :=
  let l := s.locker n
  s.putLocker n { (l.unlock .loading).switchOff with
    loadedCold := l.loadedCold || (s.bkc.force && !s.ready l) }

/-- R147: the first of these entries has its turn; entries whose locker is not BOOKED under their ref are skipped. -/
def State.giveTurn (s : State) : List ChainEntry → State
  | [] => s.withBkc (s.bkc.withEntries [])
  | e :: rest =>
    if (s.locker e.locker).state = .booked ∧ (s.locker e.locker).orderRef = some e.ref then
      (s.enterLoading e.locker).withBkc (s.bkc.withEntries (e :: rest))
    else (s.withBkc { s.bkc with skipped := s.bkc.skipped + 1 }).giveTurn rest

/-- How a locker left LOADING (R16, R17). -/
inductive LoadingExit where
  | loaded | skipped | relatched
  deriving DecidableEq, Repr

/-- R148: LKT's report of a LOADING exit removes the current entry and gives the next one its turn. -/
def State.loadingExit (s : State) (x : LoadingExit) : State :=
  let skipped := if x = .skipped then s.bkc.skipped + 1 else s.bkc.skipped
  (s.withBkc { s.bkc with skipped := skipped }).giveTurn s.bkc.entries.tail

/-- R16, R17: a locker goes back from LOADING to BOOKED. -/
def State.backToBooked (s : State) (n : LockerNo) : State :=
  s.putLocker n { (s.locker n).relock with state := .booked, loadedCold := false }

/-! ### Clear requests (R26) -/

/-- R26: a locker in LOCKOUT moves to CLEARING. -/
def State.toClearing (s : State) (n : LockerNo) : State := s.putLocker n ((s.locker n).unlock .clearing)

/-! ### Responses -/

/-- A service answer: the code and the fields. -/
structure Answer where
  code   : RespCode
  fields : List Byte
  deriving DecidableEq, Repr

/-- An answer without fields. -/
def Answer.plain (c : RespCode) : Answer := ⟨c, []⟩

/-- R178: a response begins to be sent; it carries the discarded flag, which is then cleared. -/
def State.respond (s : State) (command : Byte) (a : Answer) : State :=
  s.withSvl { s.svl with
    inProgress := some ⟨command, s.svl.discarded, a.code, a.fields⟩
    discarded := false }

/-- R177: the receiver returns to hunting at an arrival. -/
def Svl.toHunting (v : Svl) : Svl := { v with receiver := .hunting, expected := 0, gapTimer := none, kept := [] }

/-- R178: a service frame arrives: it is discarded while a command is in progress, and judged otherwise. -/
def State.serviceArrival (s : State) (judge : State → State) : State :=
  let s := s.withSvl s.svl.toHunting
  match s.svl.inProgress with
  | some _ => s.withSvl { s.svl with discarded := true }
  | none => judge s

/-- A panel answer: the code and the fields. -/
structure PanelAnswer where
  code   : PanelCode
  fields : List Byte
  deriving DecidableEq, Repr

/-- A panel answer without fields. -/
def PanelAnswer.plain (c : PanelCode) : PanelAnswer := ⟨c, []⟩

/-- R157: PNL answers a message. -/
def State.panelRespond (s : State) (type : Byte) (a : PanelAnswer) : State :=
  s.withPnl { s.pnl with sending := some ⟨type, a.code, a.fields⟩ }

/-- R158: the panel receiver returns to hunting at an arrival. -/
def Pnl.toHunting (p : Pnl) : Pnl := { p with receiver := .hunting, expected := 0, gapTimer := none, kept := [] }

/-- R158: a panel frame arrives: it is dropped while a response is being sent, and taken otherwise. -/
def State.panelArrival (s : State) (take : State → State) : State :=
  let s := s.withPnl s.pnl.toHunting
  match s.pnl.sending with
  | some _ => s
  | none => take s

end Sys2Proof.Machine
end

