-- ==== Sys2Proof/Machine/Share.lean ====
section
/-! DEFINITION. FSC: budgets, level walks, the allowance and the settlement of the shed (chapter 7). -/

namespace Sys2Proof.Machine

/-- Component-wise addition of demands. -/
def Demand.add (a b : Demand) : Demand := ⟨a.d1 + b.d1, a.d2 + b.d2, a.d3 + b.d3⟩

/-- Component-wise minimum (R125). -/
def Demand.min (a b : Demand) : Demand := ⟨Nat.min a.d1 b.d1, Nat.min a.d2 b.d2, Nat.min a.d3 b.d3⟩

/-- The sum over the three classes. -/
def Demand.total (d : Demand) : Nat := d.d1 + d.d2 + d.d3

/-- No demand. -/
def Demand.zero : Demand := ⟨0, 0, 0⟩

/-- R106: a range whose base is greater than its limit is disabled. -/
def rangeEnabled (base limit : Nat) : Bool := decide (base ≤ limit)

/-- R106: a number lies in a range, both ends included. -/
def inRange (base limit n : Nat) : Bool := decide (base ≤ n) && decide (n ≤ limit)

/-- R106: the local range is enabled. -/
def localEnabled (c : Config) : Bool := rangeEnabled c.localBase c.localLimit

/-- R106: the global range is enabled. -/
def globalEnabled (c : Config) : Bool := rangeEnabled c.globalBase c.globalLimit

/-- A budget in W after the margin, rounded down (R120 first step, R121). -/
def afterMargin (budget margin : Nat) : Nat := budget * 10 * (100 - margin) / 100

/-- B_F,eff in W (R120). -/
def feederEffective (c : Config) (shed : Shed) : Nat :=
  afterMargin c.feederBudget c.margin * (100 - if shed.inForce then c.shed else 0) / 100

/-- B_L,eff in W, or none while the local range is disabled (R121). -/
def branchEffective (c : Config) : Option Nat :=
  if localEnabled c then some (afterMargin c.branchBudget c.margin) else none

/-- One class of a level walk: the own grant and the budget left (R123). -/
def grantStep (own total budget : Nat) : Nat × Nat :=
  if total = 0 then (0, budget)
  else if total ≤ budget then (own, budget - total)
  else (own * budget / total, 0)

/-- R123: a level walk gives out one level's budget, class 1 first. -/
def levelWalk (own peers : Demand) (budget : Nat) : Demand :=
  let g1 := grantStep own.d1 (own.d1 + peers.d1) budget
  let g2 := grantStep own.d2 (own.d2 + peers.d2) g1.2
  let g3 := grantStep own.d3 (own.d3 + peers.d3) g2.2
  ⟨g1.1, g2.1, g3.1⟩

/-- The sums of the demands of some peers (R116). -/
def sumDemand (ps : List Peer) : Demand := ps.foldr (fun p d => p.demand.add d) Demand.zero

/-- R116: the feeder-level view. -/
def Pvt.feederView (p : Pvt) : Demand := sumDemand p.peers

/-- R116: the branch-level view. -/
def Pvt.branchView (p : Pvt) : Demand := sumDemand (p.peers.filter (·.inLocal))

/-- R125: the grants in JOINED. -/
def grants (own : Demand) (view : Pvt) (feeder : Nat) (branch : Option Nat) : Demand :=
  match branch with
  | none => levelWalk own view.feederView feeder
  | some b => (levelWalk own view.feederView feeder).min (levelWalk own view.branchView b)

/-- R126: the allowance by the station state. -/
def allowanceOf (c : Config) (view : Pvt) (own : Demand) (feeder : Nat) (branch : Option Nat) : Nat :=
  match view.station with
  | .joined => (grants own view feeder branch).total
  | .isolated => Nat.min (c.fallback * 10) own.total
  | .listening | .starting | .halted => 0

/-- R134: the shed state that a timed window start settles. -/
def Shed.settle : Shed → Shed
  | .clear => .clear
  | .warned => .warned
  | .releasing => .releasing
  | .liftDue => .clear

/-- R122 steps 2 to 5: FSC computes the budgets and the allowance of a window start from the own demand, and stores
them. The shed state and the view are those already settled in `s`. -/
def State.share (s : State) (own : Demand) : State :=
  let feeder := feederEffective s.cfg s.fsc.shed
  let branch := branchEffective s.cfg
  s.withFsc { s.fsc with
    feederBudget := feeder
    branchBudget := branch
    allowance := allowanceOf s.cfg s.pvt own feeder branch }

end Sys2Proof.Machine
end

