-- ==== Sys2Proof/Machine/Peers.lean ====
section
/-! DEFINITION. PVT: the peer table, its aging, and the settlement of the station state (chapter 6). -/

namespace Sys2Proof.Machine

/-- What HBP reports of the closing DEMAND period (R92). -/
inductive PeriodReport where
  | notDue | sent | notSent
  deriving DecidableEq, Repr

/-- R109 step 1. -/
def unsentAfter (run : Nat) : PeriodReport → Nat
  | .notDue => run
  | .sent => 0
  | .notSent => satInc run

/-- R109 step 2: every age rises by 1 and a record whose age reaches 3 is removed. -/
def agePeers (ps : List Peer) : List Peer :=
  (ps.map fun p => { p with age := p.age + 1 }).filter fun p => decide (p.age < 3)

/-- R112: LISTENING, with the listen count and the table as this start leaves them. -/
def settleListening (count : Nat) (empty lone : Bool) : Station :=
  if count < 2 then .listening else if !empty || lone then .joined else .isolated

/-- R113: JOINED. -/
def settleJoined (unsent : Nat) (empty lone : Bool) : Station :=
  if 3 ≤ unsent then .isolated else if empty && !lone then .isolated else .joined

/-- R114: ISOLATED. -/
def settleIsolated (r : PeriodReport) (empty lone : Bool) : Station :=
  match r with
  | .sent => if !empty || lone then .joined else .isolated
  | .notDue | .notSent => .isolated

/-- R109: PVT's part of a timed window start. -/
def Pvt.windowStart (p : Pvt) (r : PeriodReport) (lone : Bool) : Pvt :=
  let unsent := unsentAfter p.unsentRun r
  let peers := agePeers p.peers
  match p.station with
  | .listening =>
    let count := p.listenCount + 1
    { p with
      peers := peers
      unsentRun := unsent
      listenCount := count
      station := settleListening count peers.isEmpty lone }
  | .joined => { p with peers := peers, unsentRun := unsent, station := settleJoined unsent peers.isEmpty lone }
  | .isolated => { p with peers := peers, unsentRun := unsent, station := settleIsolated r peers.isEmpty lone }
  | .starting | .halted => p

/-- R108: the table after a frame has created or refreshed the record of its number; the table stays sorted by
station number. -/
def storePeer (fresh : Peer) : List Peer → List Peer
  | [] => [fresh]
  | p :: rest =>
    if fresh.station < p.station then fresh :: p :: rest
    else if fresh.station = p.station then { p with demand := fresh.demand, free := fresh.free, age := 0 } :: rest
    else p :: storePeer fresh rest

/-- R105, R106, R108: the record that a frame creates. -/
def peerOf (c : Config) (f : DemandFrame) : Peer where
  station := f.station
  demand := f.demand
  free := Nat.min 16 f.free
  inLocal := localEnabled c && inRange c.localBase c.localLimit f.station
  age := 0

/-- R107: PVT takes a checked frame. -/
def Pvt.takeFrame (p : Pvt) (c : Config) (f : DemandFrame) : Pvt :=
  if f.station = c.station then { p with clashes := satInc p.clashes }
  else if !globalEnabled c || !inRange c.globalBase c.globalLimit f.station then
    { p with outOfRange := satInc p.outOfRange }
  else { p with peers := storePeer (peerOf c f) p.peers }

/-- R117: of two peers to suggest, the one with the greater free count, the lower number among equals. -/
def betterPeer (p q : Peer) : Peer :=
  if q.free < p.free then p
  else if p.free < q.free then q
  else if p.station ≤ q.station then p else q

/-- R117: the peer with the greatest free count above 0, the lowest number among equals. -/
def suggest : List Peer → Option Peer
  | [] => none
  | p :: rest =>
    match suggest rest with
    | some q => some (betterPeer p q)
    | none => if p.free = 0 then none else some p

end Sys2Proof.Machine
end

