-- ==== Sys2Proof/Machine/Bus.lean ====
section
/-! DEFINITION. HBP: the transmit slot, attempts and arbitration, and the receive path (chapter 5). One falling edge of
the line is one command, ATTEMPT_START or FALLING_EDGE, and carries the value that its cell reads (log 9). -/

namespace Sys2Proof.Machine

/-- An attempt of this station is on the line (R90). -/
def Hbp.onLine (h : Hbp) : Bool :=
  match h.sender with
  | .arbitrating | .sending => true
  | .idle | .waiting => false

/-- R94: the attempt ends without an error and the frame in the slot waits. -/
def Hbp.loseArbitration (h : Hbp) : Hbp := { h with sender := .waiting, attemptFrame := .none, driven := none }

/-- R95: 16 errored attempts drop the frame. -/
def Hbp.dropFrame (h : Hbp) : Hbp :=
  { h with slot := none, sender := .idle, attemptCount := 0, periodResult := .dropped }

/-- R95, R97: the attempt is errored. A superseded attempt leaves the count of the new frame as it is. -/
def Hbp.errorAttempt (h : Hbp) : Hbp :=
  let g := { h with
    sender := .waiting
    attemptFrame := .none
    driven := none
    erroredAttempts := satInc h.erroredAttempts }
  if h.attemptFrame = .current then
    let g := { g with attemptCount := h.attemptCount + 1 }
    if 16 ≤ g.attemptCount then g.dropFrame else g
  else g

/-- The value that the attempt sends in the cell now on the line, cells counted from 1 (R88). -/
def Hbp.sentCell (h : Hbp) : Bool :=
  match h.driven with
  | some f => f.cells.getD (h.cellsReceived - 1) true
  | none => true

/-- A header cell, 1 to 6 (R88). -/
def Hbp.inHeader (h : Hbp) : Bool := decide (1 ≤ h.cellsReceived) && decide (h.cellsReceived ≤ 6)

/-- R94, R95: the sender compares what the cell read with what it sent: a header cell that reads 0 where 1 was sent
loses the arbitration, and any other difference is an error. After cell 78 it drives nothing. -/
def Hbp.compare (h : Hbp) (read : Bool) : Hbp :=
  if !h.onLine || decide (78 < h.cellsReceived) || read == h.sentCell then h
  else if h.inHeader && h.sentCell then h.loseArbitration
  else h.errorAttempt

/-- The value read from the cell now on the line is kept, for the first 78 cells (R98). -/
def Hbp.keepCell (h : Hbp) (read : Bool) : Hbp :=
  if h.cellsReceived ≤ 78 then { h with cells := h.cells.take (h.cellsReceived - 1) ++ [read] } else h

/-- R98, R94: the receive path, in frame, counts a cell and keeps its value; a sender still going after cell 6 is
sending, from the edge of cell 7 on (DESIGN CHOICE, log 27). -/
def Hbp.countCell (h : Hbp) (read : Bool) : Hbp :=
  let count := min 79 (h.cellsReceived + 1)
  let h := { h with
    path := .inFrame
    cellsReceived := count
    sender := if h.sender = .arbitrating ∧ 7 ≤ count then .sending else h.sender }
  if count = 79 then h else h.keepCell read

/-- R93: an attempt begins. -/
def Hbp.beginAttempt (h : Hbp) : Hbp :=
  { h with sender := .arbitrating, attemptFrame := .current, driven := h.slot }

/-- R93, R98: a falling edge as HBP takes it. On an idle line it begins a frame, and the attempt of a waiting sender
with it. -/
def Hbp.edge (h : Hbp) (read : Bool) : Hbp :=
  let h := { h with lineIdle := false }
  match h.path with
  | .ready =>
    let h := if h.sender = .waiting then h.beginAttempt else h
    (h.countCell read).compare read
  | .inFrame => (h.countCell read).compare read
  | .off | .syncing | .skipping => h

/-- R98: the receive path forgets the frame and is ready for the next. -/
def Hbp.toReady (h : Hbp) : Hbp := { h with path := .ready, cellsReceived := 0, cells := [] }

/-- R96: an own attempt is completed. -/
def Hbp.completeAttempt (h : Hbp) : Hbp :=
  let g := { h with attemptFrame := .none, driven := none }
  if h.attemptFrame = .current then
    { g with slot := none, sender := .idle, attemptCount := 0, periodResult := .sent }
  else { g with sender := .waiting }

/-- R99: the frame in the receive path passes its two checks. -/
def Hbp.frameGood (h : Hbp) : Bool :=
  decide (h.cellsReceived = 78) && decide ((DemandFrame.ofCells h.cells).checkWord = checkOfCells h.cells)

/-- R99: a frame is discarded. -/
def Hbp.discard (h : Hbp) : Hbp := { h with framesDiscarded := satInc h.framesDiscarded }

/-- R98, R99, R100: the frame end of a frame that is not this station's own completed one. -/
def State.checkFrame (s : State) : State :=
  if s.hbp.frameGood then
    (s.withPvt (s.pvt.takeFrame s.cfg (DemandFrame.ofCells s.hbp.cells))).withHbp
      { s.hbp.toReady with framesReceived := satInc s.hbp.framesReceived }
  else s.withHbp s.hbp.toReady.discard

/-- R96 to R100: the frame end event. An attempt that has driven its 78 cells is completed. One that has not found its
cells on the line is errored, as where its driver cannot pull (R102; log 10). -/
def State.frameEnd (s : State) : State :=
  let s := s.withHbp { s.hbp with lineIdle := true }
  match s.hbp.path with
  | .off | .ready => s
  | .syncing => s.withHbp s.hbp.toReady
  | .skipping => s.withHbp s.hbp.toReady.discard
  | .inFrame =>
    if s.hbp.onLine then
      if 78 ≤ s.hbp.cellsReceived then s.withHbp s.hbp.completeAttempt.toReady
      else (s.withHbp s.hbp.errorAttempt).checkFrame
    else s.checkFrame

/-- ATTEMPT_START (R93): with a frame waiting on an idle line, HBP pulls or joins the first falling edge; `read` is what
cell 1 reads. Otherwise no attempt begins. -/
def execAttemptStart (read : Bool) (s : State) : Result :=
  if s.hbp.path = .ready ∧ s.hbp.sender = .waiting then .next (s.withHbp (s.hbp.edge read)) else .next s

/-- ARBITRATION_LOST (R94): the header cell now on the line, in which this station sent 1, reads 0. -/
def execArbitrationLost (s : State) : Result :=
  if s.hbp.sender = .arbitrating ∧ s.hbp.inHeader = true ∧ s.hbp.sentCell = true then
    .next (s.withHbp (s.hbp.keepCell false).loseArbitration)
  else .next s

/-- ERRORED_ATTEMPT (R95): the cell now on the line differs from what was sent, other than by a lost arbitration, or
shows a framing error, which sends the receive path to skipping (R98). Beyond cell 78 nothing is sent, so no cell differs
(log 14). A framing error there, with the attempt still on the line, makes the attempt errored (DESIGN CHOICE, log 23). -/
def execErroredAttempt (cause : AttemptError) (s : State) : Result :=
  if s.hbp.onLine then
    match cause with
    | .differs =>
      if (s.hbp.inHeader && s.hbp.sentCell) || decide (78 < s.hbp.cellsReceived) then .next s
      else .next (s.withHbp (s.hbp.keepCell (!s.hbp.sentCell)).errorAttempt)
    | .framing => .next (s.withHbp { s.hbp with path := .skipping }.errorAttempt)
  else .next s

/-- FRAMING_ERROR (R87, R95, R98): a malformed cell of the frame being received; an own attempt on the line is errored,
beyond cell 78 too (DESIGN CHOICE, log 23). -/
def execFramingError (s : State) : Result :=
  if s.hbp.path = .inFrame then
    let h := { s.hbp with path := .skipping }
    .next (s.withHbp (if h.onLine then h.errorAttempt else h))
  else .next s

/-- FRAME_END (R87, R98): the line falls idle. -/
def execFrameEnd (s : State) : Result := .next s.frameEnd

/-- FALLING_EDGE (R98, R93): a falling edge of the line whose cell reads `read`. -/
def execFallingEdge (read : Bool) (s : State) : Result := .next (s.withHbp (s.hbp.edge read))

end Sys2Proof.Machine
end

