-- ==== Sys2Proof/Machine/Lockers.lean ====
section
/-! DEFINITION. LKT at its own events: doors, trays, the unlatch timer and the ajar timer (1.3 to 1.7). -/

namespace Sys2Proof.Machine

/-! ### Leaving the released states -/

/-- R16: the door of a LOADING locker closes. On a tray the locker is HOLDING and its hold starts (R54); without one it
goes back to BOOKED. -/
def State.closeLoading (s : State) (n : LockerNo) : State :=
  if (s.locker n).trayPresent then
    (s.putLocker n { (s.locker n).relock.startHold with state := .holding }).loadingExit .loaded
  else (s.backToBooked n).loadingExit .skipped

/-- R22, R23: an OPEN locker that still holds its meal returns to HOLDING, or to LOCKOUT with its deferred cause. -/
def State.reshut (s : State) (n : LockerNo) : State :=
  match (s.locker n).deferredCause with
  | none => s.putLocker n { (s.locker n).relock with state := .holding }
  | some c => s.endInLockout n c.cause c.bookingEnd

/-- R21, R22: the door of an OPEN locker closes. -/
def State.closeOpened (s : State) (n : LockerNo) : State :=
  if (s.locker n).trayPresent then s.reshut n else s.endCollected n

/-- R27: a CLEARING locker whose tray is still in goes back to LOCKOUT with its cause kept. -/
def State.backToLockout (s : State) (n : LockerNo) : State :=
  s.putLocker n { (s.locker n).relock with state := .lockout }

/-- R27: the door of a CLEARING locker closes. -/
def State.closeClearing (s : State) (n : LockerNo) : State :=
  let l := s.locker n
  if l.trayPresent then s.backToLockout n
  else if l.recordPending then s.putLocker n { l.relock with state := .filing }
  else s.putLocker n { l.relock with state := .free, lockoutCause := none }

/-- R13: the door of a locker with its tamper flag set closes. The flag is already cleared in `s`. -/
def State.closeForced (s : State) (n : LockerNo) : State :=
  let l := s.locker n
  match l.state with
  | .free | .filing => s.putLocker n (if l.trayPresent then l.lockOut .foreign else l)
  | .booked => if l.trayPresent then s.endInLockout n .foreign .voided else s.putLocker n l
  | .lockout | .out | .loading | .holding | .opened | .clearing => s.putLocker n l

/-! ### Doors -/

/-- R9, R10: an ordinary opening of a released door. -/
def Locker.openReleased (l : Locker) : Locker := { l with unlatchTimer := none, ajarTimer := some 0 }

/-- R12 and R9, R10: what the opening of a door does, by the locker's state; the input already shows it open. -/
def State.doorOpened (s : State) (n : LockerNo) : State :=
  let l := s.locker n
  match l.state with
  | .out => s
  | .free | .lockout | .filing => s.putLocker n { l with tamper := true }
  | .booked => s.putLocker n { l.switchOff with tamper := true }
  | .holding => (s.putLocker n { l with tamper := true }).endInLockout n .tamper .tamper
  | .loading | .opened | .clearing => s.putLocker n l.openReleased

/-- R8, R13, R16, R21, R22, R27: what the closing of a door does, by the tamper flag and the locker's state; the input
already shows it shut and the tray is read. -/
def State.doorClosed (s : State) (n : LockerNo) : State :=
  let l := s.locker n
  if l.tamper then (s.setLocker n { l with tamper := false }).closeForced n
  else
    match l.state with
    | .loading => s.closeLoading n
    | .opened => s.closeOpened n
    | .clearing => s.closeClearing n
    | .out | .free | .booked | .holding | .lockout | .filing => s

/-- The ajar timer becomes idle and the ajar flag clears at every closing (R10). -/
def Locker.shutWith (l : Locker) (tray : Bool) : Locker :=
  { l with doorShut := true, trayPresent := tray, ajarTimer := none, ajar := false }

/-- DOOR_OPEN_EVENT: the door input leaves the shut position (R8, R12). A door that is not shut cannot leave it. -/
def execDoorOpenEvent (n : LockerNo) (s : State) : Result :=
  if (s.locker n).doorShut then .next ((s.setLocker n { s.locker n with doorShut := false }).doorOpened n)
  else .next s

/-- DOOR_CLOSE_EVENT: the door input shows the door shut again and LKT reads the tray (R8). -/
def execDoorCloseEvent (n : LockerNo) (tray : Bool) (s : State) : Result :=
  if (s.locker n).doorShut then .next s
  else .next ((s.putLocker n ((s.locker n).shutWith tray)).doorClosed n)

/-! ### Timers -/

/-- R9, R16, R23, R27: the unlatch timer of a locker expires and becomes idle, and the locker is relatched. -/
def State.unlatchExpired (s : State) (n : LockerNo) : State :=
  let s := s.setLocker n { s.locker n with unlatchTimer := none }
  match (s.locker n).state with
  | .loading => (s.backToBooked n).loadingExit .skipped
  | .opened => s.reshut n
  | .clearing => s.backToLockout n
  | .out | .free | .booked | .holding | .lockout | .filing => s

/-- UNLATCH_TIMER_EXPIRY (R9): the unlatch timer of a locker reaches 20 s. -/
def execUnlatchTimerExpiry (n : LockerNo) (s : State) : Result :=
  .next (s.onExpiry (s.locker n).unlatchTimer unlatchEnd fun s => s.unlatchExpired n)

/-- R10: the ajar timer of a locker expires and becomes idle, and the ajar flag is set. -/
def State.ajarExpired (s : State) (n : LockerNo) : State :=
  s.putLocker n { s.locker n with ajarTimer := none, ajar := true }

/-- AJAR_TIMER_EXPIRY (R10): the ajar timer of a locker reaches 120 s. -/
def execAjarTimerExpiry (n : LockerNo) (s : State) : Result :=
  .next (s.onExpiry (s.locker n).ajarTimer ajarEnd fun s => s.ajarExpired n)

end Sys2Proof.Machine
end

