-- ==== Sys2Proof/Machine/Reports.lean ====
section
/-! DEFINITION. The reports of QUERY-BANK, QUERY-LOCKER, QUERY-ORDER and FETCH, byte by byte (R175, R180, R181). -/

namespace Sys2Proof.Machine

/-- R180 byte 1. -/
def Station.number : Station → Nat
  | .starting => 0
  | .listening => 1
  | .joined => 2
  | .isolated => 3
  | .halted => 4

/-- R184: the code of a fault reason. -/
def FaultReason.number : FaultReason → Nat
  | .noMemory => 1
  | .check => 2
  | .station => 3
  | .heater => 4
  | .overtemp => 5
  | .margin => 6
  | .shed => 7
  | .staff => 8
  | .globalRange => 9
  | .localRange => 10

/-- R180 byte 2: 0 for no fault. -/
def faultNumber : Option FaultReason → Nat
  | none => 0
  | some r => r.number

/-- The bank report (R180). -/
def State.bankReport (s : State) : List Byte :=
  [byte1 s.pvt.station.number, byte1 (faultNumber s.cfl.fault), byte1 s.fsc.shed.inForce.toNat]
    ++ bytes2 s.fsc.allowance
    ++ [byte1 s.hdf.elements, byte1 s.pvt.peers.length, byte1 s.bkc.remaining, byte1 s.bkc.skipped,
        byte1 s.ocl.records.length, byte1 s.filing.length]
    ++ bytes2 s.hbp.framesReceived ++ bytes2 s.hbp.framesDiscarded ++ bytes2 s.pvt.outOfRange
    ++ bytes2 s.pvt.clashes ++ bytes2 s.hbp.erroredAttempts ++ bytes2 s.hbp.failedWindows

/-- R181 byte 2. -/
def LockerState.number : LockerState → Nat
  | .out => 0
  | .free => 1
  | .booked => 2
  | .loading => 3
  | .holding => 4
  | .opened => 5
  | .lockout => 6
  | .clearing => 7
  | .filing => 8

/-- R181 byte 5. -/
def Indicator.number : Indicator → Nat
  | .off => 0
  | .steady => 1
  | .slow => 2
  | .fast => 3

/-- R181 bytes 6 and 7. -/
def Cause.number : Cause → Nat
  | .expired => 1
  | .cold => 2
  | .sensor => 3
  | .tamper => 4
  | .cancelled => 5
  | .foreign => 6
  | .restart => 7

/-- R181: a cause, 0 when absent. -/
def causeNumber : Option Cause → Nat
  | none => 0
  | some c => c.number

/-- R181: a timer in whole seconds, 255 when idle. -/
def timerByte : Timer → Nat
  | none => 255
  | some v => v / 1000

/-- R181 byte 19. -/
def readingByte : Reading → Nat
  | .fault => 255
  | .valid v => v.val

/-- R181 byte 30, R175 byte 10 of a record: 255 when absent. -/
def minimumByte : Option (Fin 255) → Nat
  | none => 255
  | some v => v.val

/-- R155, R181 byte 16: 0 not in the chain, 1 current, 2..8 waiting in that place. The place is that of the ref that the
locker holds, whatever locker its entry names (DESIGN CHOICE, log 24). -/
def chainPosition (es : List ChainEntry) (ref : Option OrderRef) : Nat :=
  match es.findIdx? fun e => some e.ref == ref with
  | some i => i + 1
  | none => 0

/-- R181 byte 3. -/
def Locker.flagsA (l : Locker) : List Bool :=
  [l.hidden, l.doorShut, l.trayPresent, l.latch == .released, l.loadedCold, l.recordPending, l.ajar, l.tamper]

/-- R181 byte 4. Its bits 6 and 7, which the table does not name, are sent as 0 (DESIGN CHOICE, log 29). -/
def State.flagsB (s : State) (n : LockerNo) : List Bool :=
  let l := s.locker n
  [l.heaterOn, l.call, s.pnl.claim == some n, s.ready l, l.holdReported && l.overheat, l.holdReported]

/-- R181 bytes 23 to 27: setpoint, active segment, floor and hold limit (R49). -/
def State.profileBytes (s : State) (l : Locker) : List Byte :=
  let p := s.profileOf l
  match l.state with
  | .booked | .loading => byte1 (preheatSetpoint p) :: [0, 0, 0, 0]
  | .holding | .opened =>
    [byte1 (activeSetpoint p l.holdElapsed), byte1 ((activeSegment p l.holdElapsed).val + 1), byte1 (floorOf p)]
      ++ bytes2 (holdLimitOf p)
  | .out | .free | .lockout | .clearing | .filing => [0, 0, 0, 0, 0]

/-- R181 bytes 28 to 38: the hold fields, where they are reported (R65). -/
def Locker.holdBytes (l : Locker) : List Byte :=
  if l.holdReported then
    bytes2 l.holdElapsed ++ [byte1 (minimumByte l.minReading)] ++ bytes2 l.belowRun ++ bytes2 l.belowTotal
      ++ bytes2 l.belowLongest ++ bytes2 l.faultRun
  else [0, 0, 255, 0, 0, 0, 0, 0, 0, 0, 0]

/-- The locker report (R181), with the pickup code given to it. -/
def State.lockerReport (s : State) (n : LockerNo) (code : Option Code) : List Byte :=
  let l := s.locker n
  [byte1 n.val, byte1 l.state.number, byte1 (packBits l.flagsA), byte1 (packBits (s.flagsB n)),
      byte1 l.indicator.number, byte1 (causeNumber l.lockoutCause),
      byte1 (causeNumber (l.deferredCause.map ScanCause.cause))]
    ++ split4 (l.orderRef.getD 0) ++ split3 (code.getD 16777215)
    ++ [byte1 (match l.profile with | some p => p.val | none => 255),
        byte1 (chainPosition s.bkc.entries l.orderRef),
        byte1 (timerByte l.unlatchTimer), byte1 (timerByte l.ajarTimer), byte1 (readingByte l.reading),
        byte1 l.cls.number, byte1 l.request, byte1 l.duty]
    ++ s.profileBytes l ++ l.holdBytes

/-- R175: an outcome as a number. -/
def BookingEnd.number : BookingEnd → Nat
  | .collected => 1
  | .expired => 2
  | .cold => 3
  | .sensor => 4
  | .tamper => 5
  | .cancelled => 6
  | .voided => 7

/-- R175: byte 7 of the outcome record. Its bits 4 to 6, which the table does not name, are sent as 0 (DESIGN CHOICE,
log 29). -/
def OutcomeRecord.flagBits (r : OutcomeRecord) : List Bool :=
  [r.flags.loadedCold, r.flags.collectedLate, r.flags.collectedCold, r.flags.overheated, false, false, false,
    r.stats.isSome]

/-- R175: bytes 8 to 14 of the outcome record. -/
def statBytes : Option HoldStats → List Byte
  | none => [0, 0, 255, 0, 0, 0, 0]
  | some h =>
    bytes2 h.holdSeconds ++ [byte1 (minimumByte h.minReading)] ++ bytes2 h.belowTotal ++ bytes2 h.belowLongest

/-- The outcome record as FETCH returns it (R175). -/
def OutcomeRecord.bytes (r : OutcomeRecord) : List Byte :=
  split4 r.ref ++ [byte1 r.locker.val, byte1 r.outcome.number, byte1 (packBits r.flagBits)] ++ statBytes r.stats

end Sys2Proof.Machine
end

