-- ==== Sys2Proof/Machine/Booking.lean ====
section
/-! DEFINITION. BKC: BOOK, LOAD, ABORT-LOAD, CANCEL and QUERY-ORDER as their block decides them (chapter 8). Each answers
the state and the answer. -/

namespace Sys2Proof.Machine

/-- The locker that holds an order ref (R140). -/
def State.holderOf (s : State) (ref : OrderRef) : Option LockerNo :=
  allLockers.find? fun n => (s.locker n).orderRef == some ref

/-- The locker that holds a pickup code (R140, R160). -/
def State.codeHolder (s : State) (code : Code) : Option LockerNo :=
  allLockers.find? fun n => (s.locker n).pickupCode == some code

/-- A record in OCL carries the ref. -/
def State.inOcl (s : State) (ref : OrderRef) : Bool := s.ocl.records.any fun r => r.ref == ref

/-! ### BOOK -/

/-- R139 order 1: the fields of a BOOK lie in their ranges. -/
def bookInRange (ref : OrderRef) (code : Code) (profile : Byte) (preferred : Option Byte) : Bool :=
  ref != 0 && decide (code.toNat ≤ 999999) && (profileOfByte profile).isSome
    && match preferred with
      | none => true
      | some b => (lockerOfByte b).isSome

/-- R47: PST answers whether a profile may be booked. -/
def State.bookable (s : State) (profile : Byte) : Bool :=
  match profileOfByte profile with
  | some p => (s.slots[p]).valid
  | none => false

/-- R139 order 3, R140. -/
def State.dupOrder (s : State) (ref : OrderRef) : Bool := (s.holderOf ref).isSome || s.inOcl ref

/-- R139 order 4, R140. -/
def State.dupCode (s : State) (code : Code) : Bool := (s.codeHolder code).isSome || code == s.cfg.staffCode

/-- R141: a reading's rank; a FAULT reading below every valid one. -/
def rankOf : Reading → Nat
  | .fault => 0
  | .valid v => v.val + 1

/-- R141: the highest rank first, the lowest number among equals. -/
def State.warmest (s : State) : List LockerNo → Option LockerNo
  | [] => none
  | n :: rest =>
    match s.warmest rest with
    | none => some n
    | some m => if rankOf (s.locker n).reading < rankOf (s.locker m).reading then some m else some n

/-- The lockers in FREE, lowest number first. -/
def State.freeLockers (s : State) : List LockerNo := allLockers.filter fun n => (s.locker n).state == .free

/-- R141: the preferred locker if it is in FREE, else the first of the ranking. -/
def State.chooseLocker (s : State) (preferred : Option Byte) : Option LockerNo :=
  match preferred.bind lockerOfByte with
  | some n => if (s.locker n).state = .free then some n else s.warmest s.freeLockers
  | none => s.warmest s.freeLockers

/-- R14: the booking is assigned to a locker in FREE. -/
def State.assign (s : State) (n : LockerNo) (ref : OrderRef) (code : Code) (profile : Byte) : State :=
  s.putLocker n { s.locker n with
    state := .booked
    orderRef := some ref
    pickupCode := some code
    profile := profileOfByte profile
    loadedCold := false }

/-- R143: the suggestion that FULL carries, 255 for none. -/
def State.suggestion (s : State) : Byte :=
  match suggest s.pvt.peers with
  | some p => byte1 p.station
  | none => 255

/-- R139, R142: BOOK. -/
def State.book (s : State) (ref : OrderRef) (code : Code) (profile : Byte) (preferred : Option Byte) :
    State × Answer :=
  if !bookInRange ref code profile preferred then (s, .plain .outOfRange)
  else if !s.bookable profile then (s, .plain .profileInvalid)
  else if s.dupOrder ref then (s, .plain .dupOrder)
  else if s.dupCode code then (s, .plain .dupCode)
  else
    match s.chooseLocker preferred with
    | some n => (s.assign n ref code profile, ⟨.ok, [byte1 n.val]⟩)
    | none => (s, ⟨.full, [s.suggestion]⟩)

/-! ### LOAD -/

/-- R145: the first failing per-ref check of one ref; `earlier` are the refs before it. -/
def State.refFault (s : State) (force : Bool) (earlier : List OrderRef) (ref : OrderRef) : Option RespCode :=
  if earlier.contains ref then some .dupOrder
  else
    match s.holderOf ref with
    | none => some .notFound
    | some n =>
      if (s.locker n).state ≠ .booked then some .wrongState
      else if force || s.ready (s.locker n) then none
      else some .notReady

/-- R145: the refs in turn, each after those before it; the first failing one with its code. -/
def State.firstFault (s : State) (force : Bool) : (earlier refs : List OrderRef) → Option (RespCode × OrderRef)
  | _, [] => none
  | earlier, r :: rest =>
    match s.refFault force earlier r with
    | some c => some (c, r)
    | none => s.firstFault force (earlier ++ [r]) rest

/-- R146: the entries of an accepted LOAD. -/
def State.entriesFor (s : State) (refs : List OrderRef) : List ChainEntry :=
  refs.filterMap fun r => (s.holderOf r).map fun n => ⟨r, n⟩

/-- R145, R146: LOAD. -/
def State.load (s : State) (force : Bool) (refs : List OrderRef) : State × Answer :=
  if s.bkc.active then (s, .plain .busy)
  else if refs.length = 0 ∨ 8 < refs.length then (s, .plain .outOfRange)
  else
    match s.firstFault force [] refs with
    | some (c, r) => (s, ⟨c, split4 r⟩)
    | none =>
      ((s.withBkc { s.bkc with skipped := 0, force := force }).giveTurn (s.entriesFor refs),
        ⟨.ok, [byte1 refs.length]⟩)

/-! ### ABORT-LOAD and CANCEL -/

/-- R17: the relatch of the current entry's locker, where its door has not opened. -/
def State.relatch (s : State) (n : LockerNo) : State :=
  if (s.locker n).state = .loading ∧ (s.locker n).unlatchTimer.isSome then
    (s.backToBooked n).loadingExit .relatched
  else s

/-- R152, R153: ABORT-LOAD. -/
def State.abortLoad (s : State) : State × Answer :=
  match s.bkc.entries with
  | [] => (s, .plain .wrongState)
  | e :: _ => ((s.withBkc (s.bkc.withEntries [e])).relatch e.locker, .plain .ok)

/-- R151: the waiting entry of a cancelled ref leaves the list, whatever locker it names; the current entry stays. -/
def entriesWithout (ref : OrderRef) : List ChainEntry → List ChainEntry
  | [] => []
  | current :: waiting => current :: waiting.filter fun e => e.ref != ref

/-- R150, R151: the entry of a cancelled booking leaves the list. -/
def State.dropEntry (s : State) (ref : OrderRef) : State :=
  s.withBkc (s.bkc.withEntries (entriesWithout ref s.bkc.entries))

/-- R18: a booking in BOOKED is freed without a record. -/
def State.freeBooked (s : State) (n : LockerNo) : State :=
  s.putLocker n { (s.locker n).clearBooking.switchOff with state := .free }

/-- R150, R151: CANCEL. -/
def State.cancel (s : State) (ref : OrderRef) : State × Answer :=
  match s.holderOf ref with
  | none => (s, .plain .notFound)
  | some n =>
    match (s.locker n).state with
    | .booked => ((s.freeBooked n).dropEntry ref, .plain .ok)
    | .holding => (s.endInLockout n .cancelled .cancelled, .plain .ok)
    | .loading | .opened => (s, .plain .busy)
    | .lockout | .clearing | .filing | .out | .free => (s, .plain .wrongState)

/-! ### QUERY-ORDER -/

/-- R155, R181: QUERY-ORDER; the pickup code is sent as absent. -/
def State.queryOrder (s : State) (ref : OrderRef) : Answer :=
  match s.holderOf ref with
  | some n => ⟨.ok, s.lockerReport n none⟩
  | none => if s.inOcl ref then .plain .filed else .plain .notFound

end Sys2Proof.Machine
end

