-- ==== Sys2Proof/Machine/Panel.lean ====
section
/-! DEFINITION. PNL: the panel line, codes, the claim, confirmation, staff clearing and the throttle (chapter 9). -/

namespace Sys2Proof.Machine

/-- R160, R167: the seconds left on the throttle, rounded up, 1..60. -/
def secondsLeft (t : Timer) : Nat :=
  match t with
  | some v => max 1 ((throttleEnd - v + 999) / 1000)
  | none => 1

/-- R166: a miss; the fifth begins the throttle. -/
def Pnl.miss (p : Pnl) : Pnl :=
  let count := min 5 (p.missCount + 1)
  if count = 5 then { p with missCount := count, throttled := true, throttleTimer := some 0 }
  else { p with missCount := count }

/-- R161: a claim is set. -/
def Pnl.offer (p : Pnl) (n : LockerNo) : Pnl := { p with claim := some n, claimTimer := some 0, missCount := 0 }

/-- The answer of the throttle (R160, R165). -/
def State.throttledAnswer (s : State) : PanelAnswer := ⟨.throttled, [byte1 (secondsLeft s.pnl.throttleTimer)]⟩

/-- R160: the answer to a code that matches nothing collectable, with its miss. -/
def State.noMatch (s : State) : State × PanelAnswer := (s.withPnl s.pnl.miss, .plain .noMatch)

/-- R160: a code is looked up. -/
def State.lookUp (s : State) (code : Code) : State × PanelAnswer :=
  match s.codeHolder code with
  | none => s.noMatch
  | some n =>
    match (s.locker n).state with
    | .holding => (s.withPnl (s.pnl.offer n), ⟨.offer, [byte1 n.val]⟩)
    | .booked | .loading => (s, .plain .notReady)
    | .opened => (s, .plain .busy)
    | .lockout => (s, ⟨.lockedOut, [byte1 n.val]⟩)
    | .clearing | .filing | .out | .free => s.noMatch

/-- R161: a PRESENT breaks the claim. An expiry of the claim that was due does not happen then, whatever claim the
PRESENT sets (log 22). -/
def State.breakClaim (s : State) : State :=
  (s.withOvertaken { s.overtaken with claim := s.overtaken.claim || s.pnl.claimTimer.due claimEnd }).endClaim

/-- R160, R161: PRESENT; every PRESENT breaks the claim. -/
def State.present (s : State) (code : Code) : State × PanelAnswer :=
  if s.pnl.throttled then (s.breakClaim, s.throttledAnswer) else s.breakClaim.lookUp code

/-- R20: a HOLDING locker is opened for pickup. -/
def State.openForPickup (s : State) (n : LockerNo) : State :=
  (s.putLocker n { ((s.locker n).unlock .opened).switchOff with deferredCause := none }).endClaim

/-- R162: CONFIRM. -/
def State.confirm (s : State) (b : Byte) : State × PanelAnswer :=
  match s.pnl.claim with
  | some n =>
    if lockerOfByte b = some n ∧ (s.locker n).state = .holding then
      (s.openForPickup n, ⟨.opened, [byte1 n.val]⟩)
    else (s, .plain .lapsed)
  | none => (s, .plain .lapsed)

/-- R165: PRESENT-STAFF, in the order of its checks. -/
def State.presentStaff (s : State) (code : Code) (b : Byte) : State × PanelAnswer :=
  if s.pnl.throttled then (s, s.throttledAnswer)
  else if code != s.cfg.staffCode then s.noMatch
  else
    match lockerOfByte b with
    | none => (s, .plain .outOfRange)
    | some n =>
      if (s.locker n).state = .lockout then (s.toClearing n, ⟨.opened, [byte1 n.val]⟩)
      else (s, .plain .wrongState)

/-- The four messages as PNL decides them while the part runs (R157). -/
def State.runMessage (s : State) : PanelMsg → State × PanelAnswer
  | .present code => s.present code
  | .confirm l => s.confirm l
  | .abandon => (s.endClaim, .plain .ok)
  | .presentStaff code l => s.presentStaff code l

/-- R157: a message is answered; in STARTING and in HALTED with CONFIG_FAULT. -/
def State.answerMessage (s : State) (m : PanelMsg) : State :=
  if s.running then (s.runMessage m).1.panelRespond m.type (s.runMessage m).2
  else s.panelRespond m.type (.plain .configFault)

/-- R158: the type that a faulty frame is answered with. -/
def PanelFault.echo : PanelFault → Byte
  | .noType => 0
  | .abandoned t | .badSum t | .badLength t | .unknownType t => t

/-- R157: the answer to a faulty frame while the part runs. -/
def PanelFault.answer : PanelFault → PanelCode
  | .unknownType _ => .unknown
  | .noType | .abandoned _ | .badSum _ | .badLength _ => .badMessage

/-- R157: a faulty frame is answered; CONFIG_FAULT stands first. -/
def State.answerPanelFault (s : State) (f : PanelFault) : State :=
  s.panelRespond (PanelFault.echo f) (.plain (if s.running then PanelFault.answer f else .configFault))

/-- R157, R158: the arrival of one of the four messages. -/
def State.takeMessage (s : State) (m : PanelMsg) : State := s.panelArrival fun s => s.answerMessage m

/-- R157, R158: the arrival of a frame that is none. -/
def State.takePanelFault (s : State) (f : PanelFault) : State := s.panelArrival fun s => s.answerPanelFault f

/-- R158: the arrival of a frame of which the receiver has kept every byte after SYNC. -/
def State.takePanelBytes (s : State) (kept : List Byte) : State :=
  match judgePanel kept with
  | .ok m => s.takeMessage m
  | .error f => s.takePanelFault f

/-- The gap timer is about to restart at a byte: an expiry of it that was due does not happen (R177; log 22). -/
def State.overtakePanelGap (s : State) : State :=
  s.withOvertaken { s.overtaken with panelGap := s.overtaken.panelGap || s.pnl.gapTimer.due gapEnd }

/-- R158: the panel receiver takes a byte as SVL's does; lengths 1..5 are taken. A type byte with a framing error is not
received: the frame that it abandons echoes type 0 (DESIGN CHOICE, log 25). -/
def State.panelByte (s : State) (b : Byte) (framingError : Bool) : State :=
  let p := s.pnl
  match p.receiver with
  | .hunting =>
    if !framingError && b == syncByte then s.withPnl { p with receiver := .length, gapTimer := some 0, kept := [] }
    else s
  | .length =>
    if framingError || b.toNat == 0 || decide (5 < b.toNat) then s.takePanelFault .noType
    else s.overtakePanelGap.withPnl { p with receiver := .body, expected := b.toNat + 1, gapTimer := some 0, kept := [b] }
  | .body =>
    if framingError then s.takePanelFault (abandonedPanel p.kept)
    else if p.expected ≤ 1 then s.takePanelBytes (p.kept ++ [b])
    else s.overtakePanelGap.withPnl { p with expected := p.expected - 1, gapTimer := some 0, kept := p.kept ++ [b] }

/-! ### The panel rows of the table -/

/-- PRESENT (R160, R161). -/
def execPresent (code : Code) (s : State) : Result := .next (s.takeMessage (.present code))

/-- CONFIRM (R162). -/
def execConfirm (locker : Byte) (s : State) : Result := .next (s.takeMessage (.confirm locker))

/-- ABANDON (R164). -/
def execAbandon (s : State) : Result := .next (s.takeMessage .abandon)

/-- PRESENT_STAFF (R165). -/
def execPresentStaff (code : Code) (locker : Byte) (s : State) : Result :=
  .next (s.takeMessage (.presentStaff code locker))

/-- PANEL_BAD_MESSAGE (R157, R158): a frame that is none of the four messages arrives. -/
def execPanelBadMessage (fault : PanelFault) (s : State) : Result := .next (s.takePanelFault fault)

/-- PANEL_FRAME_DROPPED (R158): a frame arrives while a response is being sent. With none being sent no frame is
dropped. -/
def execPanelFrameDropped (s : State) : Result :=
  match s.pnl.sending with
  | some _ => .next (s.withPnl s.pnl.toHunting)
  | none => .next s

/-- R158: the gap timer of the panel receiver expires and the frame is abandoned. -/
def State.panelGapExpired (s : State) : State :=
  match s.pnl.receiver with
  | .hunting => s.withPnl { s.pnl with gapTimer := none }
  | .length => s.takePanelFault .noType
  | .body => s.takePanelFault (abandonedPanel s.pnl.kept)

/-- PANEL_GAP_TIMER_EXPIRY (R158): the gap timer reaches 10 ms. One that a byte has overtaken does not happen (log 22). -/
def execPanelGapTimerExpiry (s : State) : Result :=
  if s.overtaken.panelGap then .next (s.withOvertaken { s.overtaken with panelGap := false })
  else .next (s.onExpiry s.pnl.gapTimer gapEnd State.panelGapExpired)

/-- PANEL_RESPONSE_SENT (R158): the whole response has been sent. -/
def execPanelResponseSent (s : State) : Result := .next (s.withPnl { s.pnl with sending := none })

/-- CLAIM_TIMER_EXPIRY (R163): the claim timer reaches 15 s; the locker stays as it is. One that a PRESENT has overtaken
does not happen (log 22). -/
def execClaimTimerExpiry (s : State) : Result :=
  if s.overtaken.claim then .next (s.withOvertaken { s.overtaken with claim := false })
  else .next (s.onExpiry s.pnl.claimTimer claimEnd State.endClaim)

/-- R167: the throttle ends. -/
def State.endThrottle (s : State) : State :=
  s.withPnl { s.pnl with throttled := false, throttleTimer := none, missCount := 0 }

/-- THROTTLE_TIMER_EXPIRY (R167): the throttle timer reaches 60 s. -/
def execThrottleTimerExpiry (s : State) : Result :=
  .next (s.onExpiry s.pnl.throttleTimer throttleEnd State.endThrottle)

/-- PANEL_BYTE_RECEIVED (R158): one byte of the panel line; a frame that it completes arrives at this event. -/
def execPanelByteReceived (b : Byte) (framingError : Bool) (s : State) : Result := .next (s.panelByte b framingError)

end Sys2Proof.Machine
end

