-- ==== Sys2Proof/Machine/Scan.lean ====
section
/-! DEFINITION. TSU: the scan event (chapter 3). -/

namespace Sys2Proof.Machine

/-- The lower of two valid samples. -/
def lower (a b : Fin 255) : Fin 255 := if a ≤ b then a else b

/-- The higher of two valid samples. -/
def higher (a b : Fin 255) : Fin 255 := if a ≤ b then b else a

/-- The middle of three valid samples. -/
def median (a b c : Fin 255) : Fin 255 := higher (lower a b) (lower (higher a b) c)

/-- R53: the reading that three samples give. -/
def readingOf (a b c : Reading) : Reading :=
  match a, b, c with
  | .valid x, .valid y, .valid z => .valid (median x y z)
  | .fault, .valid y, .valid z => .valid (lower y z)
  | .valid x, .fault, .valid z => .valid (lower x z)
  | .valid x, .valid y, .fault => .valid (lower x y)
  | .fault, .fault, _ => .fault
  | .fault, _, .fault => .fault
  | _, .fault, .fault => .fault

/-- R52, R53: the new sample enters the ring and the reading is recomputed. -/
def Locker.takeSample (l : Locker) (x : Reading) : Locker :=
  { l with ring0 := l.ring1, ring1 := l.ring2, ring2 := x, reading := readingOf l.ring1 l.ring2 x }

/-- R56 to R60: the hold fields at a supervised scan, the reading being the one just recomputed. -/
def Locker.supervise (l : Locker) (floor overtemp : Nat) : Locker :=
  match l.reading with
  | .fault => { l with holdElapsed := satInc l.holdElapsed, faultRun := satInc l.faultRun }
  | .valid v =>
    let run := if v.val < floor then satInc l.belowRun else 0
    { l with
      holdElapsed := satInc l.holdElapsed
      minReading := match l.minReading with
        | none => some v
        | some m => some (lower v m)
      belowRun := run
      belowTotal := if v.val < floor then satInc l.belowTotal else l.belowTotal
      belowLongest := if v.val < floor then max l.belowLongest run else l.belowLongest
      faultRun := 0
      overheat := l.overheat || decide (overtemp ≤ v.val) }

/-- R61: the cause that a locker's hold fields raise, the first in the order EXPIRED, COLD, SENSOR. -/
def causeOf (l : Locker) (holdLimit grace : Nat) : Option ScanCause :=
  if holdLimit ≤ l.holdElapsed then some .expired
  else if grace < l.belowRun then some .cold
  else if 30 ≤ l.faultRun then some .sensor
  else none

/-- R19: what a cause raised by TSU does to the locker. -/
def State.raise (s : State) (n : LockerNo) (c : ScanCause) : State :=
  let l := s.locker n
  match l.state with
  | .holding => s.endInLockout n c.cause c.bookingEnd
  | .opened => if l.deferredCause = none then s.setLocker n { l with deferredCause := some c } else s
  | .out | .free | .booked | .loading | .lockout | .clearing | .filing => s

/-- R63: the report that a locker is not eligible by its reading switches its heater off (R80). -/
def State.reportReading (s : State) (n : LockerNo) : State :=
  if readingEligible (s.locker n).reading s.cfg.overtemp then s else s.setLocker n (s.locker n).switchOff

/-- R55 to R61: a supervised scan after the reading is recomputed. -/
def State.superviseScan (s : State) (n : LockerNo) : State :=
  let p := s.profileOf (s.locker n)
  let s := s.setLocker n ((s.locker n).supervise (floorOf p) s.cfg.overtemp)
  match causeOf (s.locker n) (holdLimitOf p) (graceOf p) with
  | some c => s.raise n c
  | none => s

/-- R55: a scan event of a locker, by its state. -/
def State.scan (s : State) (n : LockerNo) (x : Reading) : State :=
  let s := s.setLocker n ((s.locker n).takeSample x)
  match (s.locker n).state with
  | .holding => (s.reportReading n).superviseScan n
  | .opened => s.superviseScan n
  | .booked => s.reportReading n
  | .out | .free | .loading | .lockout | .clearing | .filing => s

/-- SCAN_EVENT: TSU scans a locker; no scan is taken in STARTING or in HALTED (R50, R55). -/
def execScanEvent (n : LockerNo) (sample : Reading) (s : State) : Result :=
  if s.running then .next (s.scan n sample) else .next s

end Sys2Proof.Machine
end

