-- ==== Sys2Proof/Machine/Outcomes.lean ====
section
/-! DEFINITION. OCL: FETCH and RELEASE as their block decides them (chapter 10). -/

namespace Sys2Proof.Machine

/-- R172: FETCH shows the oldest record and changes no state. -/
def State.fetch (s : State) : Answer :=
  match s.ocl.records with
  | [] => .plain .empty
  | r :: _ => ⟨.ok, r.bytes⟩

/-- R173, R174: a record is removed; ATTN stays asserted while the list holds records. -/
def Ocl.remove (o : Ocl) (ref : OrderRef) : Ocl :=
  let rest := o.records.eraseP fun r => r.ref == ref
  { records := rest, attn := !rest.isEmpty }

/-- R173, R171: RELEASE removes the record of a ref and files the head of the pending-filing queue. -/
def State.release (s : State) (ref : OrderRef) : State × Answer :=
  if s.ocl.records.any fun r => r.ref == ref then ((s.withOcl (s.ocl.remove ref)).fileFromQueue, .plain .ok)
  else (s, .plain .notFound)

end Sys2Proof.Machine
end

