-- ==== Sys2Proof/Machine/Service.lean ====
section
/-! DEFINITION. SVL: the receiver, the judgement and dispatch of frames, the responses, and the service commands
(chapter 11.1 to 11.3); HIDE, SHOW and STAFF-OPEN as LKT decides them (R26, R32, R33). -/

namespace Sys2Proof.Machine

/-! ### Commands that LKT answers -/

/-- R32: HIDE, in the order of its checks. -/
def State.hide (s : State) (b : Byte) : State × Answer :=
  match lockerOfByte b with
  | none => (s, .plain .outOfRange)
  | some n =>
    let l := s.locker n
    if s.cfg.hideLock then (s, .plain .hideLocked)
    else if l.state = .out ∧ l.hidden = true then (s, .plain .ok)
    else if l.state ≠ .free then (s, .plain .busy)
    else if !l.doorShut then (s, .plain .busy)
    else (s.putLocker n { l with state := .out, hidden := true }, .plain .ok)

/-- R33: SHOW, in the order of its checks. -/
def State.showCmd (s : State) (b : Byte) : State × Answer :=
  match lockerOfByte b with
  | none => (s, .plain .outOfRange)
  | some n =>
    let l := s.locker n
    if s.cfg.hideLock then (s, .plain .hideLocked)
    else if l.state ≠ .out ∨ l.hidden = false then (s, .plain .wrongState)
    else if !l.doorShut then (s, .plain .busy)
    else if l.trayPresent then (s, .plain .trayPresent)
    else (s.putLocker n { l with state := .free, hidden := false }, .plain .ok)

/-- R26: STAFF-OPEN. -/
def State.staffOpen (s : State) (b : Byte) : State × Answer :=
  match lockerOfByte b with
  | none => (s, .plain .outOfRange)
  | some n =>
    if (s.locker n).state = .lockout then (s.toClearing n, ⟨.opened, [byte1 n.val]⟩)
    else (s, .plain .wrongState)

/-- R181: QUERY-LOCKER. -/
def State.queryLocker (s : State) (b : Byte) : Answer :=
  match lockerOfByte b with
  | none => .plain .outOfRange
  | some n => ⟨.ok, s.lockerReport n (s.locker n).pickupCode⟩

/-! ### Dispatch -/

/-- R175: the block that answers each command decides it. -/
def State.runCommand (s : State) : ServiceCmd → State × Answer
  | .book ref code profile preferred => s.book ref code profile preferred
  | .load force refs => s.load force refs
  | .abortLoad => s.abortLoad
  | .cancel ref => s.cancel ref
  | .queryOrder ref => (s, s.queryOrder ref)
  | .queryLocker l => (s, s.queryLocker l)
  | .queryBank => (s, ⟨.ok, s.bankReport⟩)
  | .fetch => (s, s.fetch)
  | .release ref => s.release ref
  | .hideLocker l => s.hide l
  | .showLocker l => s.showCmd l
  | .staffOpen l => s.staffOpen l

/-- R179: dispatch by the station state. -/
def State.dispatch (s : State) (c : ServiceCmd) : State × Answer :=
  match s.pvt.station with
  | .starting => (s, .plain .configFault)
  | .halted =>
    match c with
    | .queryBank => (s, ⟨.ok, s.bankReport⟩)
    | .book .. | .load .. | .abortLoad | .cancel _ | .queryOrder _ | .queryLocker _ | .fetch | .release _
    | .hideLocker _ | .showLocker _ | .staffOpen _ => (s, .plain .configFault)
  | .listening | .joined | .isolated => s.runCommand c

/-- R178, R179: a command is dispatched and its response begins to be sent. -/
def State.answerCommand (s : State) (c : ServiceCmd) : State := (s.dispatch c).1.respond c.code (s.dispatch c).2

/-- R177: the code byte that a faulty frame is answered with. -/
def FrameFault.echo : FrameFault → Byte
  | .noCode => 0
  | .abandoned c | .badSum c | .unknownCode c | .badLength c => c

/-- R177: the answer to a faulty frame. -/
def FrameFault.answer : FrameFault → RespCode
  | .unknownCode _ => .unknown
  | .noCode | .abandoned _ | .badSum _ | .badLength _ => .badFrame

/-- R177: a faulty frame is answered; no other state changes. -/
def State.answerFault (s : State) (f : FrameFault) : State := s.respond (FrameFault.echo f) (.plain (FrameFault.answer f))

/-- R178: the arrival of a frame that is a command. -/
def State.serve (s : State) (c : ServiceCmd) : State := s.serviceArrival fun s => s.answerCommand c

/-- R177, R178: the arrival of a frame that is none. -/
def State.serveFault (s : State) (f : FrameFault) : State := s.serviceArrival fun s => s.answerFault f

/-- R177: the arrival of a frame of which the receiver has kept every byte after SYNC. -/
def State.serveBytes (s : State) (kept : List Byte) : State :=
  match judgeService kept with
  | .ok c => s.serve c
  | .error f => s.serveFault f

/-- The gap timer is about to restart at a byte: an expiry of it that was due does not happen (R177; log 22). -/
def State.overtakeServiceGap (s : State) : State :=
  s.withOvertaken { s.overtaken with serviceGap := s.overtaken.serviceGap || s.svl.gapTimer.due gapEnd }

/-- R177: the receiver takes a byte. A code byte with a framing error is not received: the frame that it abandons echoes
code 0 (DESIGN CHOICE, log 25). -/
def State.serviceByte (s : State) (b : Byte) (framingError : Bool) : State :=
  let v := s.svl
  match v.receiver with
  | .hunting =>
    if !framingError && b == syncByte then s.withSvl { v with receiver := .length, gapTimer := some 0, kept := [] }
    else s
  | .length =>
    if framingError || b.toNat == 0 || decide (39 < b.toNat) then s.serveFault .noCode
    else s.overtakeServiceGap.withSvl { v with receiver := .body, expected := b.toNat + 1, gapTimer := some 0, kept := [b] }
  | .body =>
    if framingError then s.serveFault (abandonedService v.kept)
    else if v.expected ≤ 1 then s.serveBytes (v.kept ++ [b])
    else s.overtakeServiceGap.withSvl { v with expected := v.expected - 1, gapTimer := some 0, kept := v.kept ++ [b] }

/-- R176: a pending change of the line rate takes effect; a frame part-way through receipt is dropped. -/
def Svl.changeRate (v : Svl) (r : LineRate) : Svl := { v.toHunting with rate := r, pendingRate := none }

/-- R178, R176: the last byte of the response has been sent. -/
def Svl.responseEnd (v : Svl) : Svl :=
  match v.inProgress with
  | none => v
  | some _ =>
    let v := { v with inProgress := none }
    match v.pendingRate with
    | some r => v.changeRate r
    | none => v

/-! ### The service rows of the table -/

/-- BOOK (R139). -/
def execBook (ref : OrderRef) (code : Code) (profile : Byte) (preferred : Option Byte) (s : State) : Result :=
  .next (s.serve (.book ref code profile preferred))

/-- LOAD (R145). -/
def execLoad (force : Bool) (refs : List OrderRef) (s : State) : Result := .next (s.serve (.load force refs))

/-- ABORT_LOAD (R152). -/
def execAbortLoad (s : State) : Result := .next (s.serve .abortLoad)

/-- CANCEL (R150). -/
def execCancel (ref : OrderRef) (s : State) : Result := .next (s.serve (.cancel ref))

/-- QUERY_ORDER (R155); the report reads the tray inputs (R8). -/
def execQueryOrder (ref : OrderRef) (trays : Lines) (s : State) : Result :=
  .next ((s.sampleTrays trays).serve (.queryOrder ref))

/-- QUERY_LOCKER (R181); the report reads the tray inputs (R8). -/
def execQueryLocker (locker : Byte) (trays : Lines) (s : State) : Result :=
  .next ((s.sampleTrays trays).serve (.queryLocker locker))

/-- QUERY_BANK (R180). -/
def execQueryBank (s : State) : Result := .next (s.serve .queryBank)

/-- FETCH (R172). -/
def execFetch (s : State) : Result := .next (s.serve .fetch)

/-- RELEASE (R173). -/
def execRelease (ref : OrderRef) (s : State) : Result := .next (s.serve (.release ref))

/-- HIDE (R32). -/
def execHide (locker : Byte) (s : State) : Result := .next (s.serve (.hideLocker locker))

/-- SHOW (R33); it reads the tray input (R8). -/
def execShow (locker : Byte) (trays : Lines) (s : State) : Result :=
  .next ((s.sampleTrays trays).serve (.showLocker locker))

/-- STAFF_OPEN (R26). -/
def execStaffOpen (locker : Byte) (s : State) : Result := .next (s.serve (.staffOpen locker))

/-- BAD_FRAME (R177): a frame that is no command arrives. -/
def execBadFrame (fault : FrameFault) (s : State) : Result := .next (s.serveFault fault)

/-- FRAME_DISCARDED (R178): a frame arrives while a command is in progress. With none in progress no frame is
discarded. -/
def execFrameDiscarded (s : State) : Result :=
  match s.svl.inProgress with
  | some _ => .next (s.withSvl { s.svl.toHunting with discarded := true })
  | none => .next s

/-- R177: the gap timer of the receiver expires and the frame is abandoned. -/
def State.gapExpired (s : State) : State :=
  match s.svl.receiver with
  | .hunting => s.withSvl { s.svl with gapTimer := none }
  | .length => s.serveFault .noCode
  | .body => s.serveFault (abandonedService s.svl.kept)

/-- GAP_TIMER_EXPIRY (R177): the gap timer reaches 10 ms. One that a byte has overtaken does not happen (log 22). -/
def execGapTimerExpiry (s : State) : Result :=
  if s.overtaken.serviceGap then .next (s.withOvertaken { s.overtaken with serviceGap := false })
  else .next (s.onExpiry s.svl.gapTimer gapEnd State.gapExpired)

/-- RESPONSE_SENT (R178): the last byte of the response has been sent. -/
def execResponseSent (s : State) : Result := .next (s.withSvl s.svl.responseEnd)

/-- SERVICE_BYTE_RECEIVED (R177): one byte of the service line; a frame that it completes arrives at this event. -/
def execServiceByteReceived (b : Byte) (framingError : Bool) (trays : Lines) (s : State) : Result :=
  .next ((s.sampleTrays trays).serviceByte b framingError)

end Sys2Proof.Machine
end

