-- ==== Sys2Proof/Machine/Startup.lean ====
section
/-! DEFINITION. CFL: reset, the judgement of the configuration image, and the end of STARTING (11.5). -/

namespace Sys2Proof.Machine

/-! ### Reset -/

/-- A record after reset; the levels of its two input pins are the outside world's (log 6). -/
def Locker.afterReset (l : Locker) : Locker := { Locker.reset with doorShut := l.doorShut, trayPresent := l.trayPresent }

/-- R183 and the reset columns of R2, R34, R51, R68, R90, R104, R119, R138, R159, R170, R176: all state returns to its
reset value. The input levels and the waiting commands are not the part's state (log 6). -/
def State.resetPart (s : State) : State :=
  { State.reset with
    lockers := Vector.ofFn fun n => (s.locker n).afterReset
    hbp := { Hbp.reset with lineIdle := s.hbp.lineIdle }
    fsc := { Fsc.reset with feederWarn := s.fsc.feederWarn }
    pending := s.pending }

/-- CM-SEL: the memory is selected while the read runs, from the end of reset to the read completion, which is the whole
of STARTING (R183, R111). -/
def State.memorySelected (s : State) : Bool := decide (s.pvt.station = .starting)

/-- CM-CK: the memory is clocked while the read runs, and at no other time (R183). -/
def State.memoryClocked (s : State) : Bool := s.memorySelected

/-- The bits that CM-CK clocks out in one read, from the first address (R183). -/
def readBits : Nat := 8 * 250

/-- RESET (R183): the configuration read begins again from the first byte, which is what STARTING is. -/
def execReset (s : State) : Result := .next s.resetPart

/-! ### The image -/

/-- R184: the checks in order; the first that fails is the fault reason. -/
def judgeImage (image : List Byte) : Option FaultReason :=
  let c := configOfImage image
  if imageWord image 1 ≠ 20300 then some .noMemory
  else if onesSum (wordsOf (image.take 248)) ≠ imageWord image 249 then some .check
  else if 31 < c.station then some .station
  else if c.heaterCode = 0 then some .heater
  else if c.overtemp < 160 ∨ 250 < c.overtemp then some .overtemp
  else if 50 < c.margin then some .margin
  else if 90 < c.shed then some .shed
  else if 999999 < c.staffCode.toNat then some .staff
  else if globalEnabled c ∧ inRange c.globalBase c.globalLimit c.station = false then some .globalRange
  else if localEnabled c ∧ inRange c.localBase c.localLimit c.station = false then some .localRange
  else none

/-! ### The end of STARTING -/

/-- R3: a locker is set up from the hide mask and its inputs. -/
def Locker.setUp (l : Locker) (hidden : Bool) : Locker :=
  if hidden then { l with state := .out, hidden := true }.refresh
  else if l.trayPresent then
    { l with state := .lockout, lockoutCause := some .restart, tamper := !l.doorShut }.refresh
  else { l with state := .free, tamper := !l.doorShut }.refresh

/-- R129: FSC reads FEEDER-WARN once. -/
def Fsc.readWarn (f : Fsc) : Fsc := if f.feederWarn then { f with shed := .warned } else f

/-- R91: the receive path begins to sync, and is ready at once on an idle line. -/
def Hbp.startSync (h : Hbp) : Hbp := { h with path := if h.lineIdle then .ready else .syncing }

/-- R176: the line rate changes now, or at the end of the response being sent. -/
def Svl.takeRate (v : Svl) (r : LineRate) : Svl :=
  match v.inProgress with
  | none => v.changeRate r
  | some _ => { v with pendingRate := some r }

/-- R185: the blocks take up their fields in one event and the station state becomes LISTENING (R111). The branch budget
in force stays at its reset value 0 until the first window start, with the local range disabled too (DESIGN CHOICE,
log 28). -/
def State.endStarting (s : State) (image : List Byte) : State :=
  let c := configOfImage image
  let s := s.withCfl { s.cfl with image := some image, config := some c }
  let s := s.withPvt { s.pvt with station := .listening }
  let s := s.withSlots (Vector.ofFn fun p => storeSlot (presentInImage image p) (profileOfImage image p) c.overtemp)
  let s := s.withFsc s.fsc.readWarn
  let s := s.withHdf { s.hdf with windowTimer := some 0 }
  let s := s.eachLocker fun n l => l.setUp (c.hideMask.getLsbD n.val)
  let s := s.withHbp s.hbp.startSync
  s.withSvl (s.svl.takeRate c.rate)

/-- R184, R111: a failed check sets the fault reason and the station state becomes HALTED. -/
def State.halt (s : State) (image : List Byte) (r : FaultReason) : State :=
  (s.withCfl { s.cfl with image := some image, fault := some r }).withPvt { s.pvt with station := .halted }

/-- R184, R185: the read completion. -/
def State.readComplete (s : State) (image : List Byte) : State :=
  match judgeImage image with
  | some r => s.halt image r
  | none => s.endStarting image

/-- READ_COMPLETION (R184): the 250-byte read completes. No read is under way outside STARTING (R183). -/
def execReadCompletion (image : List Byte) (trays : Lines) (s : State) : Result :=
  if s.pvt.station = .starting then .next ((s.sampleTrays trays).readComplete (imageRead image)) else .next s

end Sys2Proof.Machine
end

