-- ==== Sys2Proof/Machine/Window.lean ====
section
/-! DEFINITION. HDF: the window start, timed or shed, from the snapshot to the outputs of slot 0, the slot boundaries,
and the events of FEEDER-WARN that bring a shed window (chapter 4, 7.4). -/

namespace Sys2Proof.Machine

/-! ### Calls, classes and requests -/

/-- R73: a HOLDING locker whose reading is below floor + 4. -/
def isRescue (st : LockerState) (reading floor : Nat) : Bool := decide (st = .holding) && decide (reading < floor + 4)

/-- R72: the call by the band. -/
def bandCall (before : Bool) (reading setpoint lowerM upperM : Nat) : Bool :=
  if reading + lowerM < setpoint then true else if setpoint + upperM ≤ reading then false else before

/-- R74: the class of an eligible locker. -/
def classOf (st : LockerState) (rescue call : Bool) : HeatClass :=
  if !call then .none else if rescue then .class1 else if st = .holding then .class2 else .class3

/-- R74: the request of an eligible locker whose call is on: clamp(setpoint − reading + 2, 2, 16). -/
def requestOf (setpoint reading : Nat) : Nat := min 16 (max 2 (setpoint + 2 - reading))

/-- The setpoint that HDF takes for a locker at the snapshot (R72); 0 where PST gives none. -/
def State.heatSetpoint (s : State) (l : Locker) : Nat := (s.setpointFor l).getD 0

/-- R71 to R74: the call, class and request of a locker from its snapshot. The call changes here and nowhere else (R72,
R85), so a locker that leaves BOOKED or HOLDING and comes back between two window starts keeps its call, though R71 has
every locker enter with its call off (DESIGN CHOICE, log 26). -/
def State.callLocker (s : State) (l : Locker) : Locker :=
  match l.reading with
  | .fault => { l with call := false, cls := .none, request := 0 }
  | .valid v =>
    if l.eligible s.cfg.overtemp then
      let p := s.profileOf l
      let sp := s.heatSetpoint l
      let rescue := isRescue l.state v.val (floorOf p)
      let call := rescue || bandCall l.call v.val sp (lowerMargin p) (upperMargin p)
      { l with
        call := call
        cls := classOf l.state rescue call
        request := if call then requestOf sp v.val else 0 }
    else { l with call := false, cls := .none, request := 0 }

/-- R70 steps 1 and 2. -/
def State.setCalls (s : State) : State := s.eachLocker fun _ l => s.callLocker l

/-- s_c, the summed requests of a class (R75). -/
def State.classUnits (s : State) (c : HeatClass) : Nat :=
  (allLockers.map fun n => if (s.locker n).cls = c then (s.locker n).request else 0).sum

/-- D_1, D_2, D_3 of the bank (R75). -/
def State.ownDemand (s : State) : Demand :=
  ⟨s.classUnits .class1 * s.cfg.heaterCode, s.classUnits .class2 * s.cfg.heaterCode,
    s.classUnits .class3 * s.cfg.heaterCode⟩

/-! ### Fill and pack -/

/-- R76: N from the allowance and the heater code. -/
def elementsOf (allowance heaterCode : Nat) : Nat := min 16 (allowance / (16 * heaterCode))

/-- What the fill needs of a locker (R77). -/
structure FillItem where
  locker  : LockerNo
  cls     : Nat
  deficit : Int
  request : Nat
  deriving DecidableEq, Repr

/-- R77: class first, then the greater deficit, then the lower number. -/
def FillItem.before (a b : FillItem) : Bool :=
  if a.cls ≠ b.cls then decide (a.cls < b.cls)
  else if a.deficit ≠ b.deficit then decide (b.deficit < a.deficit)
  else decide (a.locker ≤ b.locker)

/-- Puts an item at its place in the fill order. -/
def insertItem (a : FillItem) : List FillItem → List FillItem
  | [] => [a]
  | b :: rest => if a.before b then a :: b :: rest else b :: insertItem a rest

/-- The items in fill order. -/
def fillOrder : List FillItem → List FillItem
  | [] => []
  | a :: rest => insertItem a (fillOrder rest)

/-- The deficit of a locker, setpoint − reading (R77). -/
def State.deficitOf (s : State) (l : Locker) : Int :=
  match l.reading with
  | .fault => 0
  | .valid v => (s.heatSetpoint l : Int) - v.val

/-- The lockers whose request is above 0, as the fill takes them (R77). -/
def State.fillItems (s : State) : List FillItem :=
  (allLockers.filter fun n => decide (0 < (s.locker n).request)).map fun n =>
    ⟨n, (s.locker n).cls.number, s.deficitOf (s.locker n), (s.locker n).request⟩

/-- A granted duty (R77). -/
structure Grant where
  locker : LockerNo
  duty   : Nat
  deriving DecidableEq, Repr

/-- R77: each locker in turn is given the lesser of its request and what is left. -/
def fill : (budget : Nat) → List FillItem → List Grant
  | _, [] => []
  | budget, i :: rest => ⟨i.locker, min i.request budget⟩ :: fill (budget - min i.request budget) rest

/-- The duty that a locker has in a list of grants; 0 outside the fill order (R77). -/
def dutyIn (gs : List Grant) (n : LockerNo) : Nat :=
  match gs.find? fun g => g.locker == n with
  | some g => g.duty
  | none => 0

/-- R78: the lockers in the order in which the running position takes them. -/
def packRun (gs : List Grant) : List LockerNo := gs.flatMap fun g => List.replicate g.duty g.locker

/-- R78: one layer: sixteen places, the empty ones at the end. -/
def packLayer (run : List LockerNo) : List (Option LockerNo) :=
  (run.take 16).map some ++ List.replicate (16 - run.length) none

/-- R78: N layers. -/
def packLayers : (n : Nat) → List LockerNo → List (List (Option LockerNo))
  | 0, _ => []
  | n + 1, run => packLayer run :: packLayers n (run.drop 16)

/-- R79: a locker is placed in a slot, in any layer. -/
def placedIn (plan : List (List (Option LockerNo))) (slot : Fin 16) (n : LockerNo) : Bool :=
  plan.any fun layer => layer.getD slot.val none == some n

/-! ### Switching -/

/-- R79: a slot becomes current and every output is set for it. -/
def State.enterSlot (s : State) (j : Fin 16) : State :=
  (s.eachLocker fun n l => { l with heaterOn := placedIn s.hdf.plan j n && decide (0 < l.duty) }).withHdf
    { s.hdf with currentSlot := some j }

/-- R70 steps 6 to 8: from the allowance in force to the outputs of slot 0. -/
def State.fillAndPack (s : State) : State :=
  let n := elementsOf s.fsc.allowance s.cfg.heaterCode
  let gs := fill (16 * n) (fillOrder s.fillItems)
  ((s.eachLocker fun k l => { l with duty := dutyIn gs k }).withHdf
    { s.hdf with elements := n, slotBudget := 16 * n, plan := packLayers n (packRun gs) }).enterSlot 0

/-- SLOT_BOUNDARY (R79): the next slot of the running window becomes current, 125 ms × its number after the window
start (R69; log 3). Before the first window and after slot 15 there is no boundary (log 14), and one that a shed start has
overtaken does not happen (log 22). -/
def execSlotBoundary (s : State) : Result :=
  if s.overtaken.slotBoundary then .next (s.withOvertaken { s.overtaken with slotBoundary := false })
  else match s.hdf.currentSlot, s.hdf.windowTimer with
  | some j, some v =>
    if h : j.val + 1 < 16 then
      .next ((s.advance (slotTime * (j.val + 1) - v)).enterSlot ⟨j.val + 1, h⟩)
    else .next s
  | _, _ => .next s

/-! ### Window starts -/

/-- R92: the report on the closing DEMAND period. -/
def reportOf : PeriodResult → PeriodReport
  | .none => .notDue
  | .sent => .sent
  | .dropped | .pending => .notSent

/-- R92: a period that ends without its DEMAND sent is a failed window. -/
def Hbp.settlePeriod (h : Hbp) : Hbp :=
  match reportOf h.periodResult with
  | .notSent => { h with failedWindows := satInc h.failedWindows }
  | .notDue | .sent => h

/-- R92, R97: the new frame takes the slot; an attempt on the line goes on as superseded. -/
def Hbp.takeDemand (h : Hbp) (f : DemandFrame) : Hbp :=
  let h := { h with slot := some f, attemptCount := 0, periodResult := .pending }
  if h.onLine then { h with attemptFrame := .superseded } else { h with sender := .waiting }

/-- R75: the demand handed to HBP, by the station state just settled. -/
def demandToSend (st : Station) (own : Demand) : Demand :=
  match st with
  | .joined | .isolated => own
  | .listening | .starting | .halted => Demand.zero

/-- R88: the DEMAND frame of a timed window start. -/
def demandFrame (station : Nat) (d : Demand) (free : Nat) : DemandFrame where
  urgency := decide (d.d1 = 0)
  station := station
  demand := d
  free := free
  pad := 0

/-- R69: the window timer restarts. -/
def State.restartWindow (s : State) : State := s.withHdf { s.hdf with windowTimer := some 0 }

/-- R92, R109, R134: what the closing period brings at HBP, PVT and FSC. -/
def State.settleWindow (s : State) : State :=
  let r := reportOf s.hbp.periodResult
  let s := s.withHbp s.hbp.settlePeriod
  let s := s.withPvt (s.pvt.windowStart r s.cfg.lonePermitted)
  s.withFsc { s.fsc with shed := s.fsc.shed.settle }

/-- R70 step 4, R88, R92: HBP takes the demand of this window. -/
def State.handDemand (s : State) : State :=
  s.withHbp (s.hbp.takeDemand
    (demandFrame s.cfg.station (demandToSend s.pvt.station s.ownDemand) s.freeCount))

/-- R70: the timed window start. -/
def State.timedStart (s : State) : State :=
  let s := s.restartWindow.settleWindow.setCalls.handDemand
  (s.share s.ownDemand).fillAndPack

/-- A slot boundary of the running window falls due at this very instant. -/
def Hdf.boundaryDue (h : Hdf) : Bool :=
  match h.currentSlot, h.windowTimer with
  | some j, some v => decide (j.val < 15) && decide (v = slotTime * (j.val + 1))
  | _, _ => false

/-- R83, R69: the restart of the window timer by a shed start keeps a timed start that was due from happening, and a
slot boundary of the window that it ends (log 22). -/
def State.overtakeWindow (s : State) : State :=
  s.withOvertaken { s.overtaken with
    windowStart := s.overtaken.windowStart || s.hdf.windowTimer.due windowEnd
    slotBoundary := s.overtaken.slotBoundary || s.hdf.boundaryDue }

/-- R82: the shed window start: no DEMAND is handed and PVT does nothing. -/
def State.shedStart (s : State) : State :=
  let s := s.overtakeWindow.restartWindow.setCalls
  (s.share s.ownDemand).fillAndPack

/-- TIMED_WINDOW_START (R70): the window timer reaches 2 s. One that a shed start has overtaken does not happen (R83;
log 22). -/
def execTimedWindowStart (s : State) : Result :=
  if s.overtaken.windowStart then .next (s.withOvertaken { s.overtaken with windowStart := false })
  else .next (s.onExpiry s.hdf.windowTimer windowEnd State.timedStart)

/-! ### FEEDER-WARN -/

/-- R131: an assertion, by the shed state it finds. -/
def State.warnAsserted (s : State) : State :=
  match s.fsc.shed with
  | .clear => (s.withFsc { s.fsc with shed := .warned }).shedStart
  | .releasing => s.withFsc { s.fsc with shed := .warned, releaseHold := none }
  | .liftDue => s.withFsc { s.fsc with shed := .warned }
  | .warned => s

/-- FEEDER_WARN_ASSERTION (R131): the line goes asserted. FSC takes no event in STARTING and HALTED (R128). -/
def execFeederWarnAssertion (s : State) : Result :=
  let s := s.withFsc { s.fsc with feederWarn := true }
  if s.running then .next s.warnAsserted else .next s

/-- R130: a release, in the one shed state in which it arrives. -/
def State.warnReleased (s : State) : State :=
  match s.fsc.shed with
  | .warned => s.withFsc { s.fsc with shed := .releasing, releaseHold := some 0 }
  | .clear | .releasing | .liftDue => s

/-- FEEDER_WARN_RELEASE (R130): the line goes released. FSC takes no event in STARTING and HALTED (R128). -/
def execFeederWarnRelease (s : State) : Result :=
  let s := s.withFsc { s.fsc with feederWarn := false }
  if s.running then .next s.warnReleased else .next s

/-- R133: the release hold timer expires. -/
def State.releaseExpired (s : State) : State := s.withFsc { s.fsc with shed := .liftDue, releaseHold := none }

/-- RELEASE_HOLD_EXPIRY (R133): the release hold timer reaches 10 s. -/
def execReleaseHoldExpiry (s : State) : Result :=
  .next (s.onExpiry s.fsc.releaseHold releaseEnd State.releaseExpired)

end Sys2Proof.Machine
end

