-- ==== Sys2Proof/Machine/Dispatch.lean ====
section
/-! DEFINITION. The meaning of every command, one arm for each row of spec/opcode_table.json. -/

namespace Sys2Proof.Machine

def exec (i : Instr) (s : State) : Host.Outcome State Fault Refusal :=
  match i with
  | .reset => Sys2Proof.Machine.execReset s
  | .readCompletion image trays => Sys2Proof.Machine.execReadCompletion image trays s
  | .scanEvent n sample => Sys2Proof.Machine.execScanEvent n sample s
  | .timedWindowStart => Sys2Proof.Machine.execTimedWindowStart s
  | .slotBoundary => Sys2Proof.Machine.execSlotBoundary s
  | .feederWarnAssertion => Sys2Proof.Machine.execFeederWarnAssertion s
  | .feederWarnRelease => Sys2Proof.Machine.execFeederWarnRelease s
  | .releaseHoldExpiry => Sys2Proof.Machine.execReleaseHoldExpiry s
  | .doorOpenEvent n => Sys2Proof.Machine.execDoorOpenEvent n s
  | .doorCloseEvent n tray => Sys2Proof.Machine.execDoorCloseEvent n tray s
  | .unlatchTimerExpiry n => Sys2Proof.Machine.execUnlatchTimerExpiry n s
  | .ajarTimerExpiry n => Sys2Proof.Machine.execAjarTimerExpiry n s
  | .attemptStart read => Sys2Proof.Machine.execAttemptStart read s
  | .arbitrationLost => Sys2Proof.Machine.execArbitrationLost s
  | .erroredAttempt cause => Sys2Proof.Machine.execErroredAttempt cause s
  | .framingError => Sys2Proof.Machine.execFramingError s
  | .frameEnd => Sys2Proof.Machine.execFrameEnd s
  | .present code => Sys2Proof.Machine.execPresent code s
  | .confirm locker => Sys2Proof.Machine.execConfirm locker s
  | .abandon => Sys2Proof.Machine.execAbandon s
  | .presentStaff code locker => Sys2Proof.Machine.execPresentStaff code locker s
  | .panelBadMessage fault => Sys2Proof.Machine.execPanelBadMessage fault s
  | .panelFrameDropped => Sys2Proof.Machine.execPanelFrameDropped s
  | .panelGapTimerExpiry => Sys2Proof.Machine.execPanelGapTimerExpiry s
  | .panelResponseSent => Sys2Proof.Machine.execPanelResponseSent s
  | .claimTimerExpiry => Sys2Proof.Machine.execClaimTimerExpiry s
  | .throttleTimerExpiry => Sys2Proof.Machine.execThrottleTimerExpiry s
  | .book ref code profile preferred => Sys2Proof.Machine.execBook ref code profile preferred s
  | .load force refs => Sys2Proof.Machine.execLoad force refs s
  | .abortLoad => Sys2Proof.Machine.execAbortLoad s
  | .cancel ref => Sys2Proof.Machine.execCancel ref s
  | .queryOrder ref trays => Sys2Proof.Machine.execQueryOrder ref trays s
  | .queryLocker locker trays => Sys2Proof.Machine.execQueryLocker locker trays s
  | .queryBank => Sys2Proof.Machine.execQueryBank s
  | .fetch => Sys2Proof.Machine.execFetch s
  | .release ref => Sys2Proof.Machine.execRelease ref s
  | .hideLocker locker => Sys2Proof.Machine.execHide locker s
  | .showLocker locker trays => Sys2Proof.Machine.execShow locker trays s
  | .staffOpen locker => Sys2Proof.Machine.execStaffOpen locker s
  | .badFrame fault => Sys2Proof.Machine.execBadFrame fault s
  | .frameDiscarded => Sys2Proof.Machine.execFrameDiscarded s
  | .gapTimerExpiry => Sys2Proof.Machine.execGapTimerExpiry s
  | .responseSent => Sys2Proof.Machine.execResponseSent s
  | .fallingEdge read => Sys2Proof.Machine.execFallingEdge read s
  | .serviceByteReceived b framingError trays => Sys2Proof.Machine.execServiceByteReceived b framingError trays s
  | .panelByteReceived b framingError => Sys2Proof.Machine.execPanelByteReceived b framingError s

end Sys2Proof.Machine
end

