-- ==== Sys2Proof/Machine/Step.lean ====
section
/-! DEFINITION. One step: the command at the front of the queue, or the passing of a millisecond. -/

namespace Sys2Proof.Machine

/-- The command at the front is taken with the queue's rest; with nothing waiting one millisecond passes
(DESIGN CHOICE, log 2). -/
def step (s : State) : Host.Outcome State Fault Refusal :=
  match s.pending with
  | [] => .next (s.advance 1)
  | c :: rest => exec c (s.withPending rest)

/-- No word spells a command, so the state is as it was (`decodeTableWord`); a word that did would put its command at
the front of the queue. -/
def State.withFetchWord (s : State) (nbits w : Nat) : State :=
  match decodeTableWord nbits w with
  | some c => s.withPending (c :: s.pending)
  | none => s

end Sys2Proof.Machine
end

