-- ==== Sys2Proof/Safety.lean ====
section
/-! DEFINITION. The laws that hold of a sound state of the OL-416, in the manual's own words where it states them as laws,
and what the claims about runs are stated in. -/

namespace Sys2Proof.Machine

/-- The states in which the latch is released (R4). -/
def LockerState.releasedState : LockerState → Bool
  | .loading | .opened | .clearing => true
  | .out | .free | .booked | .holding | .lockout | .filing => false

/-- R2, R115, R184: every block stands at its reset values but for the input pins, the lamps' clock, the receivers and
responses of the two serial lines, CFL's image and fault reason, and the station state itself. -/
structure State.Dormant (s : State) : Prop where
  lockers  : ∀ n, s.locker n = { (s.locker n).afterReset with lampPhase := (s.locker n).lampPhase }
  filing   : s.filing = []
  slots    : s.slots = State.reset.slots
  hdf      : s.hdf = Hdf.reset
  hbp      : s.hbp = { Hbp.reset with lineIdle := s.hbp.lineIdle }
  pvt      : s.pvt = { Pvt.reset with station := s.pvt.station }
  fsc      : s.fsc = { Fsc.reset with feederWarn := s.fsc.feederWarn }
  bkc      : s.bkc = Bkc.reset
  claim    : s.pnl.claim = none
  claimT   : s.pnl.claimTimer = none
  misses   : s.pnl.missCount = 0
  throttle : s.pnl.throttled = false
  throtT   : s.pnl.throttleTimer = none
  ocl      : s.ocl = Ocl.reset
  config   : s.cfl.config = none
  rate     : s.svl.rate = .r19200 ∧ s.svl.pendingRate = none

/-- R2, R115, R184: in STARTING and in HALTED every block keeps its reset values; from LISTENING on the configuration
fields are there (R185). -/
structure State.StationLaw (s : State) : Prop where
  dormant    : s.running = false → s.Dormant
  configured : s.running = true → s.cfl.config.isSome

/-- R4, R5, R9, R10, R12: what latch, indicator, timers and flags of one locker record have to do with its state. -/
structure Locker.LatchLaw (l : Locker) : Prop where
  latch     : l.latch = .released ↔ l.state.releasedState = true
  indicator : l.indicator = l.pattern
  unlatch   : l.unlatchTimer.isSome → l.state.releasedState = true
  ajarT     : l.ajarTimer.isSome → l.state.releasedState = true
  ajar      : l.ajar = true → l.state.releasedState = true
  tamper    : l.tamper = true → l.latch = .locked

/-- The latch law of every locker. -/
def State.LatchLaw (s : State) : Prop := ∀ n, (s.locker n).LatchLaw

/-- R161: while a claim exists it names a locker in HOLDING, and its timer runs. -/
structure State.ClaimLaw (s : State) : Prop where
  holding : ∀ n, s.pnl.claim = some n → (s.locker n).state = .holding
  timer   : s.pnl.claim.isSome ↔ s.pnl.claimTimer.isSome

/-- R138: the load chain holds at most 8 entries, is active exactly while it has one, and counts them; the entries passed
over and those left are no more than the 8 that a LOAD can carry; at most one locker is in LOADING, that of the current
entry, and it is while the chain is active. -/
structure State.ChainLaw (s : State) : Prop where
  bound     : s.bkc.entries.length ≤ 8
  active    : s.bkc.active = !s.bkc.entries.isEmpty
  remaining : s.bkc.remaining = s.bkc.entries.length
  skipped   : s.bkc.skipped + s.bkc.entries.length ≤ 8
  current   : ∀ n, (s.locker n).state = .loading ↔ s.bkc.entries.head?.map ChainEntry.locker = some n

/-- R174, R170, R30: OCL holds at most 8 records, ATTN is asserted exactly while it holds one, and the pending-filing
queue is empty while it holds fewer than 8. -/
structure State.OutcomeLaw (s : State) : Prop where
  bound : s.ocl.records.length ≤ 8
  attn  : s.ocl.attn = !s.ocl.records.isEmpty
  queue : s.filing ≠ [] → s.ocl.records.length = 8

/-- R79: a heater is on, or to come on in the window, only for a locker in BOOKED or HOLDING whose door is shut and whose
reading is valid and below the overtemperature limit. -/
def State.HeatLaw (s : State) : Prop :=
  ∀ n, (s.locker n).heaterOn = true ∨ 0 < (s.locker n).duty → (s.locker n).eligible s.cfg.overtemp = true

/-- R68, R76, R78, R79: the plan has N ≤ 16 layers, S is 16 × N, a heater is on only where the current slot places it, and
N is 0 in STARTING, LISTENING and HALTED. -/
structure State.PlanLaw (s : State) : Prop where
  elements : s.hdf.elements ≤ 16
  layers   : s.hdf.plan.length = s.hdf.elements
  budget   : s.hdf.slotBudget = 16 * s.hdf.elements
  placed   : ∀ n, (s.locker n).heaterOn = true →
    ∃ j, s.hdf.currentSlot = some j ∧ placedIn s.hdf.plan j n = true
  dark     : s.pvt.station ≠ .joined → s.pvt.station ≠ .isolated → s.hdf.elements = 0

/-- The number of heaters that are on. -/
def State.heatersOn (s : State) : Nat := (allLockers.filter fun n => (s.locker n).heaterOn).length

/-- R109: at most one record per station number, never the own number, only numbers within an enabled global range, and
no age of 3 or more; the free counts are at most 16 (R108). -/
structure State.PeerLaw (s : State) : Prop where
  sorted : s.pvt.peers.Pairwise fun p q => p.station < q.station
  member : ∀ p ∈ s.pvt.peers, p.station ≠ s.cfg.station ∧ globalEnabled s.cfg = true
    ∧ inRange s.cfg.globalBase s.cfg.globalLimit p.station = true ∧ p.age ≤ 2 ∧ p.free ≤ 16

/-- R51, R90, R104: every saturating count stays within 16 bits. -/
structure State.CountLaw (s : State) : Prop where
  hbp     : s.hbp.framesReceived ≤ 65535 ∧ s.hbp.framesDiscarded ≤ 65535 ∧ s.hbp.erroredAttempts ≤ 65535
    ∧ s.hbp.failedWindows ≤ 65535
  pvt     : s.pvt.outOfRange ≤ 65535 ∧ s.pvt.clashes ≤ 65535 ∧ s.pvt.unsentRun ≤ 65535
  pnl     : s.pnl.missCount ≤ 5
  lockers : ∀ n, (s.locker n).holdElapsed ≤ 65535 ∧ (s.locker n).belowRun ≤ 65535
    ∧ (s.locker n).belowTotal ≤ 65535 ∧ (s.locker n).belowLongest ≤ 65535 ∧ (s.locker n).faultRun ≤ 65535

/-- R166, R167: the throttle is on exactly while the miss count stands at 5, and its timer runs exactly then. -/
structure State.ThrottleLaw (s : State) : Prop where
  misses : s.pnl.throttled = true ↔ s.pnl.missCount = 5
  timer  : s.pnl.throttled = true ↔ s.pnl.throttleTimer.isSome
  bound  : s.pnl.missCount ≤ 5

/-- R1, R29 to R31, R140: which lockers hold a ref, a code and a profile, what the pending-filing queue holds, and that no
order ref appears twice across the Locker Table and the Outcome List together, nor a code twice among the lockers. -/
structure State.BookingLaw (s : State) : Prop where
  together  : ∀ n, (s.locker n).orderRef.isSome = (s.locker n).pickupCode.isSome
    ∧ (s.locker n).orderRef.isSome = (s.locker n).profile.isSome
  held      : ∀ n, (s.locker n).state = .booked ∨ (s.locker n).state = .loading ∨ (s.locker n).state = .holding
    ∨ (s.locker n).state = .opened ∨ (s.locker n).state = .filing → (s.locker n).orderRef.isSome = true
  empty     : ∀ n, (s.locker n).state = .out ∨ (s.locker n).state = .free → (s.locker n).orderRef = none
  pending   : ∀ n, (s.locker n).recordPending = true ↔ (s.locker n).orderRef.isSome = true
    ∧ ((s.locker n).state = .lockout ∨ (s.locker n).state = .clearing ∨ (s.locker n).state = .filing)
  queued    : ∀ n, (s.locker n).recordPending = true ↔ ∃ e ∈ s.filing, e.locker = n
  single    : (s.filing.map FilingEntry.locker).Nodup
  record    : ∀ e ∈ s.filing, (s.locker e.locker).orderRef = some e.record.ref
  lockerRef : ∀ n m r, (s.locker n).orderRef = some r → (s.locker m).orderRef = some r → n = m
  listRef   : (s.ocl.records.map OutcomeRecord.ref).Nodup
  bothRef   : ∀ n r, (s.locker n).orderRef = some r → s.inOcl r = false
  lockerCode : ∀ n m c, (s.locker n).pickupCode = some c → (s.locker m).pickupCode = some c → n = m

/-- R90, R97, R98: what the fields of HBP have to do with one another: the line and the cells with the receive path, the
slot with the sender and the period, the attempt with the frame being driven, and at most 15 errored attempts. The sender
is sending from the edge of cell 7 on (DESIGN CHOICE, log 27). -/
structure State.BusLaw (s : State) : Prop where
  off         : s.hbp.path = .off ↔ s.running = false
  line        : s.hbp.path ≠ .off → (s.hbp.lineIdle = true ↔ s.hbp.path = .ready)
  between     : s.hbp.path = .off ∨ s.hbp.path = .syncing ∨ s.hbp.path = .ready → s.hbp.cellsReceived = 0
  inFrame     : s.hbp.path = .inFrame → 1 ≤ s.hbp.cellsReceived
  counted     : s.hbp.cellsReceived ≤ 79
  kept        : s.hbp.cells.length = min 78 s.hbp.cellsReceived
  slot        : s.hbp.sender = .idle ↔ s.hbp.slot = none
  period      : s.hbp.periodResult = .pending ↔ s.hbp.slot ≠ none
  attempt     : s.hbp.onLine = true ↔ s.hbp.attemptFrame ≠ .none
  driven      : s.hbp.onLine = true ↔ s.hbp.driven ≠ none
  current     : s.hbp.attemptFrame = .current → s.hbp.driven = s.hbp.slot
  onFrame     : s.hbp.onLine = true → s.hbp.path = .inFrame
  arbitrating : s.hbp.sender = .arbitrating → s.hbp.cellsReceived ≤ 6
  sending     : s.hbp.sender = .sending → 7 ≤ s.hbp.cellsReceived
  attempts    : s.hbp.attemptCount ≤ 15

/-- R119, R129 to R133: the release hold timer runs exactly in RELEASING, and in a part that runs the shed state is WARNED
exactly while FEEDER-WARN is asserted. -/
structure State.ShedLaw (s : State) : Prop where
  hold  : s.fsc.releaseHold.isSome ↔ s.fsc.shed = .releasing
  level : s.running = true → (s.fsc.feederWarn = true ↔ s.fsc.shed = .warned)

/-- R1: a lockout cause is present in LOCKOUT and in CLEARING, and else in FILING at most; a deferred cause is present in
OPEN at most. -/
structure Locker.CauseLaw (l : Locker) : Prop where
  present  : l.state = .lockout ∨ l.state = .clearing → l.lockoutCause.isSome
  absent   : l.lockoutCause.isSome → l.state = .lockout ∨ l.state = .clearing ∨ l.state = .filing
  deferred : l.deferredCause.isSome → l.state = .opened

/-- The cause law of every locker. -/
def State.CauseLaw (s : State) : Prop := ∀ n, (s.locker n).CauseLaw

/-! ### What the claims about single commands are stated in -/

/-- R177, R178: a frame that arrived with no command in progress is answered: the receiver hunts again, the response
carries the discarded flag, and the flag is cleared. -/
def State.answered (s : State) (command : Byte) (code : RespCode) (fields : List Byte) : State :=
  { s with svl := { s.svl with
      receiver := .hunting
      expected := 0
      gapTimer := none
      kept := []
      inProgress := some ⟨command, s.svl.discarded, code, fields⟩
      discarded := false } }

/-- R177, R178: a frame that arrived with a command in progress is discarded. -/
def State.frameDropped (s : State) : State :=
  { s with svl := { s.svl with receiver := .hunting, expected := 0, gapTimer := none, kept := [], discarded := true } }

/-- R157, R158: a panel frame that arrived with no response being sent is answered. -/
def State.panelAnswered (s : State) (type : Byte) (code : PanelCode) (fields : List Byte) : State :=
  { s with pnl := { s.pnl with
      receiver := .hunting
      expected := 0
      gapTimer := none
      kept := []
      sending := some ⟨type, code, fields⟩ } }

/-- R158: a panel frame that arrived while a response was being sent is dropped. -/
def State.panelDropped (s : State) : State :=
  { s with pnl := { s.pnl with receiver := .hunting, expected := 0, gapTimer := none, kept := [] } }

/-- The row of the command table that a service command is; `trays` are the tray levels at its arrival. -/
def serviceRow (trays : Lines) : ServiceCmd → Instr
  | .book ref code profile preferred => .book ref code profile preferred
  | .load force refs => .load force refs
  | .abortLoad => .abortLoad
  | .cancel ref => .cancel ref
  | .queryOrder ref => .queryOrder ref trays
  | .queryLocker l => .queryLocker l trays
  | .queryBank => .queryBank
  | .fetch => .fetch
  | .release ref => .release ref
  | .hideLocker l => .hideLocker l
  | .showLocker l => .showLocker l trays
  | .staffOpen l => .staffOpen l

/-- The state that a service command finds at its arrival: the three commands that read the tray inputs take their
levels (R8; log 7). -/
def State.atArrival (s : State) (trays : Lines) : ServiceCmd → State
  | .queryOrder _ | .queryLocker _ | .showLocker _ => s.sampleTrays trays
  | .book .. | .load .. | .abortLoad | .cancel _ | .queryBank | .fetch | .release _ | .hideLocker _ | .staffOpen _ => s

/-- The row of the command table that a panel message is. -/
def panelRow : PanelMsg → Instr
  | .present code => .present code
  | .confirm l => .confirm l
  | .abandon => .abandon
  | .presentStaff code l => .presentStaff code l

/-- The sum of the granted duties. -/
def dutySum (gs : List Grant) : Nat := (gs.map Grant.duty).sum

/-- The slots of a plan in which a locker is placed. -/
def slotsOf (plan : List (List (Option LockerNo))) (n : LockerNo) : List (Fin 16) :=
  (List.finRange 16).filter fun j => placedIn plan j n

/-- The lockers that a plan places in a slot. -/
def lockersIn (plan : List (List (Option LockerNo))) (j : Fin 16) : List LockerNo :=
  allLockers.filter fun n => placedIn plan j n

/-- R76 to R79: what a window start at state `s` under the allowance `a` leaves in HDF and in the records of the lockers:
the calls of the snapshot, N and S, the fill, the plan, and the outputs of slot 0. -/
structure State.WindowPlanned (s t : State) (a : Nat) : Prop where
  hdf     : t.hdf =
    { elements := min 16 (a / (16 * s.cfg.heaterCode))
      slotBudget := 16 * min 16 (a / (16 * s.cfg.heaterCode))
      plan := packLayers (min 16 (a / (16 * s.cfg.heaterCode)))
        (packRun (fill (16 * min 16 (a / (16 * s.cfg.heaterCode))) (fillOrder s.setCalls.fillItems)))
      currentSlot := some 0
      windowTimer := some 0 }
  lockers : ∀ n, t.locker n =
    { s.callLocker (s.locker n) with
      duty := dutyIn (fill (16 * min 16 (a / (16 * s.cfg.heaterCode))) (fillOrder s.setCalls.fillItems)) n
      heaterOn := placedIn t.hdf.plan 0 n
        && decide (0 < dutyIn (fill (16 * min 16 (a / (16 * s.cfg.heaterCode))) (fillOrder s.setCalls.fillItems)) n) }

end Sys2Proof.Machine
end

