-- ==== Sys2Proof/WellFormed.lean ====
section
/-! DEFINITION. Which commands can arise: the limits that the type of an operand does not already state. -/

namespace Sys2Proof

/-- R177: an unknown code is none of 1..12; a frame whose code was received echoes it. -/
def FrameFault.wellFormed : FrameFault → Bool
  | .noCode => true
  | .abandoned _ => true
  | .badSum _ => true
  | .unknownCode c => c == 0 || decide (12 < c.toNat)
  | .badLength c => decide (1 ≤ c.toNat) && decide (c.toNat ≤ 12)

/-- R158: an unknown type is none of 1..4; a length fails to fit only a type of 1..4. -/
def PanelFault.wellFormed : PanelFault → Bool
  | .noType => true
  | .abandoned _ => true
  | .badSum _ => true
  | .unknownType t => t == 0 || decide (4 < t.toNat)
  | .badLength t => decide (1 ≤ t.toNat) && decide (t.toNat ≤ 4)

/-- R177: a LOAD frame has a length of at most 39, so it carries at most nine refs. -/
def ServiceCmd.wellFormed : ServiceCmd → Bool
  | .load _ refs => decide (refs.length ≤ 9)
  | .book .. | .abortLoad | .cancel _ | .queryOrder _ | .queryLocker _ | .queryBank | .fetch | .release _
  | .hideLocker _ | .showLocker _ | .staffOpen _ => true

/-- R182: the image read is 250 bytes. The other limits are those of the three tests above. -/
def Instr.wellFormed : Instr → Bool
  | .readCompletion image _ => decide (image.length = 250)
  | .load force refs => (ServiceCmd.load force refs).wellFormed
  | .badFrame f => f.wellFormed
  | .panelBadMessage f => f.wellFormed
  | .reset | .scanEvent _ _ | .timedWindowStart | .slotBoundary | .feederWarnAssertion | .feederWarnRelease
  | .releaseHoldExpiry | .doorOpenEvent _ | .doorCloseEvent _ _ | .unlatchTimerExpiry _ | .ajarTimerExpiry _
  | .attemptStart _ | .arbitrationLost | .erroredAttempt _ | .framingError | .frameEnd | .present _ | .confirm _
  | .abandon | .presentStaff _ _ | .panelFrameDropped | .panelGapTimerExpiry | .panelResponseSent
  | .claimTimerExpiry | .throttleTimerExpiry | .book _ _ _ _ | .abortLoad | .cancel _ | .queryOrder _ _
  | .queryLocker _ _ | .queryBank | .fetch | .release _ | .hideLocker _ | .showLocker _ _ | .staffOpen _
  | .frameDiscarded | .gapTimerExpiry | .responseSent | .fallingEdge _ | .serviceByteReceived _ _ _
  | .panelByteReceived _ _ => true

end Sys2Proof
end

