-- ==== Sys2Proof/Certificates/Slice0/Obligations.lean ====
section
/-! DEFINITION. The statements about the OL-416 that are handed to the provers. -/

open Sys2Proof Sys2Proof.Machine

/-! ### The machine as a whole -/

/-- The command at the front of the queue is taken, on the state with the queue's rest. -/
def Obligations.StepTakesFront : Prop :=
  ∀ (c : Instr) (rest : List Instr) (s : State), s.pending = c :: rest → step s = exec c { s with pending := rest }

/-- With no command waiting, one millisecond passes at every running timer and nothing else happens (the model's
choice, log 2); no expiry counts as overtaken any more (the model's choice, log 22). The same is said of any time that
passes, which `State.advance` lets pass before an expiry and a slot boundary. -/
def Obligations.IdleStepPassesOneMillisecond : Prop :=
  ∀ s : State,
    let passed : Nat → State → Prop := fun d t =>
      (∀ n, t.locker n = { s.locker n with
          unlatchTimer := (s.locker n).unlatchTimer.map fun v => min 20000 (v + d)
          ajarTimer := (s.locker n).ajarTimer.map fun v => min 120000 (v + d)
          lampPhase := ((s.locker n).lampPhase + d) % 1000 })
      ∧ t.hdf = { s.hdf with windowTimer := s.hdf.windowTimer.map fun v => min 2000 (v + d) }
      ∧ t.fsc = { s.fsc with releaseHold := s.fsc.releaseHold.map fun v => min 10000 (v + d) }
      ∧ t.pnl = { s.pnl with
          claimTimer := s.pnl.claimTimer.map fun v => min 15000 (v + d)
          throttleTimer := s.pnl.throttleTimer.map fun v => min 60000 (v + d)
          gapTimer := s.pnl.gapTimer.map fun v => min 10 (v + d) }
      ∧ t.svl = { s.svl with gapTimer := s.svl.gapTimer.map fun v => min 10 (v + d) }
      ∧ t.filing = s.filing ∧ t.slots = s.slots ∧ t.hbp = s.hbp ∧ t.pvt = s.pvt ∧ t.bkc = s.bkc ∧ t.ocl = s.ocl
      ∧ t.cfl = s.cfl ∧ t.pending = s.pending ∧ t.overtaken = ⟨false, false, false, false, false⟩
    (s.pending = [] → ∃ t, step s = .next t ∧ passed 1 t)
    ∧ s.advance 0 = s
    ∧ ∀ d, 0 < d → passed d (s.advance d)

/-- Every command has its next state from every state, and leaves the queue as it is. That no command stops the part is
deduced from the manual (log 21); that RESET leaves the waiting commands is the model's choice (log 6). -/
def Obligations.EveryCommandCompletes : Prop :=
  ∀ (c : Instr) (s : State), ∃ t, exec c s = .next t ∧ t.pending = s.pending

/-- A command that reports the end of a timer lets the time that the timer still lacks pass first; an event that cannot
arise in the present state changes nothing but the level of its pin; and an expiry that another event has overtaken at
this instant does not happen (the model's choices, logs 3, 14 and 22). -/
def Obligations.TimersAndImpossibleEvents : Prop :=
  ∀ s : State,
    (∀ n v, (s.locker n).unlatchTimer = some v →
      exec (.unlatchTimerExpiry n) s = exec (.unlatchTimerExpiry n) (s.advance (20000 - v)))
    ∧ (∀ n v, (s.locker n).ajarTimer = some v →
      exec (.ajarTimerExpiry n) s = exec (.ajarTimerExpiry n) (s.advance (120000 - v)))
    ∧ (∀ v, s.overtaken.windowStart = false → s.hdf.windowTimer = some v →
      exec .timedWindowStart s = exec .timedWindowStart (s.advance (2000 - v)))
    ∧ (∀ v, s.fsc.releaseHold = some v → exec .releaseHoldExpiry s = exec .releaseHoldExpiry (s.advance (10000 - v)))
    ∧ (∀ v, s.overtaken.claim = false → s.pnl.claimTimer = some v →
      exec .claimTimerExpiry s = exec .claimTimerExpiry (s.advance (15000 - v)))
    ∧ (∀ v, s.pnl.throttleTimer = some v →
      exec .throttleTimerExpiry s = exec .throttleTimerExpiry (s.advance (60000 - v)))
    ∧ (∀ v, s.overtaken.panelGap = false → s.pnl.gapTimer = some v →
      exec .panelGapTimerExpiry s = exec .panelGapTimerExpiry (s.advance (10 - v)))
    ∧ (∀ v, s.overtaken.serviceGap = false → s.svl.gapTimer = some v →
      exec .gapTimerExpiry s = exec .gapTimerExpiry (s.advance (10 - v)))
    ∧ (s.overtaken.windowStart = true →
      exec .timedWindowStart s = .next { s with overtaken := { s.overtaken with windowStart := false } })
    ∧ (s.overtaken.slotBoundary = true →
      exec .slotBoundary s = .next { s with overtaken := { s.overtaken with slotBoundary := false } })
    ∧ (s.overtaken.claim = true →
      exec .claimTimerExpiry s = .next { s with overtaken := { s.overtaken with claim := false } })
    ∧ (s.overtaken.panelGap = true →
      exec .panelGapTimerExpiry s = .next { s with overtaken := { s.overtaken with panelGap := false } })
    ∧ (s.overtaken.serviceGap = true →
      exec .gapTimerExpiry s = .next { s with overtaken := { s.overtaken with serviceGap := false } })
    ∧ (∀ n, (s.locker n).unlatchTimer = none → exec (.unlatchTimerExpiry n) s = .next s)
    ∧ (∀ n, (s.locker n).ajarTimer = none → exec (.ajarTimerExpiry n) s = .next s)
    ∧ (s.overtaken.windowStart = false → s.hdf.windowTimer = none → exec .timedWindowStart s = .next s)
    ∧ (s.overtaken.slotBoundary = false → s.hdf.windowTimer = none ∨ s.hdf.currentSlot = none →
      exec .slotBoundary s = .next s)
    ∧ (s.fsc.releaseHold = none → exec .releaseHoldExpiry s = .next s)
    ∧ (s.overtaken.claim = false → s.pnl.claimTimer = none → exec .claimTimerExpiry s = .next s)
    ∧ (s.pnl.throttleTimer = none → exec .throttleTimerExpiry s = .next s)
    ∧ (s.overtaken.panelGap = false → s.pnl.gapTimer = none → exec .panelGapTimerExpiry s = .next s)
    ∧ (s.overtaken.serviceGap = false → s.svl.gapTimer = none → exec .gapTimerExpiry s = .next s)
    ∧ (s.running = false ∨ s.fsc.shed ≠ .warned →
      exec .feederWarnRelease s = .next { s with fsc := { s.fsc with feederWarn := false } })
    ∧ (∀ image trays, s.pvt.station ≠ .starting → exec (.readCompletion image trays) s = .next s)
    ∧ (∀ n x, s.running = false → exec (.scanEvent n x) s = .next s)
    ∧ (∀ n, (s.locker n).doorShut = false → exec (.doorOpenEvent n) s = .next s)
    ∧ (∀ n b, (s.locker n).doorShut = true → exec (.doorCloseEvent n b) s = .next s)
    ∧ (∀ b, s.hbp.path ≠ .ready ∨ s.hbp.sender ≠ .waiting → exec (.attemptStart b) s = .next s)
    ∧ (s.hbp.sender ≠ .arbitrating → exec .arbitrationLost s = .next s)
    ∧ (∀ e, s.hbp.onLine = false → exec (.erroredAttempt e) s = .next s)
    ∧ (78 < s.hbp.cellsReceived → exec (.erroredAttempt .differs) s = .next s)
    ∧ (1 ≤ s.hbp.cellsReceived → s.hbp.cellsReceived ≤ 6 → s.hbp.sentCell = true →
      exec (.erroredAttempt .differs) s = .next s)
    ∧ (s.hbp.path ≠ .inFrame → exec .framingError s = .next s)
    ∧ (s.pnl.sending = none → exec .panelFrameDropped s = .next s)
    ∧ (s.svl.inProgress = none → exec .frameDiscarded s = .next s ∧ exec .responseSent s = .next s)

/-! ### Start-up -/

/-- R183 and the reset columns of R2, R51, R68, R90, R104, R119, R138, R159, R170, R176: RESET returns all state to its
reset value from any state, and the memory is selected and clocked for a new read. The levels of the inputs, the idle heat
bus line and the waiting commands are not the part's (the model's choice, logs 6 and 11); the fields that no reset column
lists are empty (the model's choice, log 17). -/
def Obligations.ResetRestoresEveryBlock : Prop :=
  ∀ s : State, ∃ t, exec .reset s = .next t
    ∧ (∀ n, t.locker n =
        { Locker.reset with doorShut := (s.locker n).doorShut, trayPresent := (s.locker n).trayPresent })
    ∧ (∀ n, (t.locker n).state = .out ∧ (t.locker n).hidden = false ∧ (t.locker n).orderRef = none
      ∧ (t.locker n).pickupCode = none ∧ (t.locker n).profile = none ∧ (t.locker n).loadedCold = false
      ∧ (t.locker n).lockoutCause = none ∧ (t.locker n).deferredCause = none ∧ (t.locker n).recordPending = false
      ∧ (t.locker n).ajar = false ∧ (t.locker n).tamper = false ∧ (t.locker n).latch = .locked
      ∧ (t.locker n).unlatchTimer = none ∧ (t.locker n).ajarTimer = none ∧ (t.locker n).indicator = .off
      ∧ (t.locker n).ring0 = .fault ∧ (t.locker n).ring1 = .fault ∧ (t.locker n).ring2 = .fault
      ∧ (t.locker n).reading = .fault ∧ (t.locker n).holdElapsed = 0 ∧ (t.locker n).minReading = none
      ∧ (t.locker n).belowRun = 0 ∧ (t.locker n).belowTotal = 0 ∧ (t.locker n).belowLongest = 0
      ∧ (t.locker n).faultRun = 0 ∧ (t.locker n).overheat = false
      ∧ (t.locker n).call = false ∧ (t.locker n).cls = .none ∧ (t.locker n).request = 0
      ∧ (t.locker n).duty = 0 ∧ (t.locker n).heaterOn = false)
    ∧ t.filing = [] ∧ (∀ p : ProfileNo, t.slots[p] = ⟨false, false, none⟩)
    ∧ t.hdf = ⟨0, 0, [], none, none⟩
    ∧ t.hbp = ⟨none, 0, .idle, .none, none, .none, .off, 0, [], 0, 0, 0, 0, s.hbp.lineIdle⟩
    ∧ t.pvt = ⟨.starting, [], 0, 0, 0, 0⟩
    ∧ t.fsc = ⟨.clear, none, 0, some 0, 0, s.fsc.feederWarn⟩
    ∧ t.bkc = ⟨false, [], false, 0, 0⟩
    ∧ t.pnl = ⟨none, none, 0, false, none, .hunting, 0, none, [], none⟩
    ∧ t.ocl = ⟨[], false⟩
    ∧ t.svl = ⟨.hunting, 0, none, [], none, false, .r19200, none⟩
    ∧ t.cfl = ⟨none, none, none⟩
    ∧ t.memorySelected = true ∧ t.memoryClocked = true
    ∧ t.overtaken = ⟨false, false, false, false, false⟩ ∧ t.pending = s.pending

/-- R184: the checks of the image in their order; the first that fails gives the fault reason. R89: the ones'-complement
sum adds the words one by one, and where the running sum exceeds 65 535 takes 65 536 from it and adds 1. -/
def Obligations.ImageChecksInOrder : Prop :=
  (onesSum [] = 0 ∧ ∀ (ws : List Nat) (w : Nat), onesSum (ws ++ [w]) =
    if 65535 < onesSum ws + w then onesSum ws + w - 65536 + 1 else onesSum ws + w)
  ∧ ∀ image : List Byte, image.length = 250 →
    let b := fun i => (image.getD (i - 1) 0).toNat
    let w := fun i => b i * 256 + b (i + 1)
    judgeImage image =
      (([(.noMemory, decide (w 1 = 20300)),
        (.check, decide (onesSum ((List.range 124).map fun k => w (2 * k + 1)) = w 249)),
        (.station, decide (b 3 ≤ 31)),
        (.heater, decide (1 ≤ b 17 % 64)),
        (.overtemp, decide (160 ≤ b 18 ∧ b 18 ≤ 250)),
        (.margin, decide (b 12 ≤ 50)),
        (.shed, decide (b 13 ≤ 90)),
        (.staff, decide (b 21 * 65536 + b 22 * 256 + b 23 ≤ 999999)),
        (.globalRange, decide (b 4 % 32 ≤ b 5 % 32 → b 4 % 32 ≤ b 3 ∧ b 3 ≤ b 5 % 32)),
        (.localRange, decide (b 6 % 32 ≤ b 7 % 32 → b 6 % 32 ≤ b 3 ∧ b 3 ≤ b 7 % 32))]
          : List (FaultReason × Bool)).find? fun c => !c.2).map Prod.fst

/-- R182, R184, R185, R3, R35, R69, R91, R111, R129, R176: the read completion. An image that passes brings every block
its fields, written out here byte by byte, and ends STARTING in LISTENING; one that fails ends it in HALTED, and no block
but CFL and PVT changes. The tray levels are kept as read (the model's choice, log 7), and a rate that is already in force
is taken as a change, which drops a frame part-way through receipt (the model's choice, log 16). The branch budget in force
stays as it was until the first window start (the model's choice, log 28). -/
def Obligations.ReadCompletionEndsStarting : Prop :=
  ∀ (image : List Byte) (trays : Lines) (s : State), s.pvt.station = .starting → image.length = 250 →
    let b := fun i => (image.getD (i - 1) 0).toNat
    let w := fun i => b i * 256 + b (i + 1)
    let bit := fun i k => decide (b i / 2 ^ k % 2 = 1)
    let c : Config :=
      { station := b 3
        globalBase := b 4 % 32
        globalLimit := b 5 % 32
        localBase := b 6 % 32
        localLimit := b 7 % 32
        feederBudget := w 8
        branchBudget := w 10
        margin := b 12
        shed := b 13
        fallback := w 14
        lonePermitted := bit 16 0
        hideLock := bit 16 1
        heaterCode := b 17 % 64
        overtemp := b 18
        hideMask := BitVec.ofNat 16 (w 19)
        staffCode := BitVec.ofNat 24 (b 21 * 65536 + b 22 * 256 + b 23)
        rate := if b 24 % 4 = 0 then .r9600 else if b 24 % 4 = 1 then .r19200 else if b 24 % 4 = 2 then .r38400
          else .r57600 }
    (∀ r, judgeImage image = some r →
      exec (.readCompletion image trays) s = .next { s.sampleTrays trays with
        cfl := { s.cfl with image := some image, fault := some r }
        pvt := { s.pvt with station := .halted } })
    ∧ s.memorySelected = true ∧ s.memoryClocked = true
    ∧ (judgeImage image = none → ∃ t, exec (.readCompletion image trays) s = .next t
      ∧ t.pvt = { s.pvt with station := .listening } ∧ t.memorySelected = false ∧ t.memoryClocked = false
      ∧ t.cfl = { s.cfl with image := some image, config := some c }
      ∧ (∀ p : ProfileNo,
        let q := 24 + 28 * p.val
        let f : Profile :=
          { segments := Vector.ofFn fun k : Fin 12 =>
              ⟨Fin.ofNat 16 (b (q + 2 * k.val + 1) % 16), Fin.ofNat 32 (b (q + 2 * k.val + 2) % 32)⟩
            offsetMinus := bit (q + 25) 3
            offsetAmount := Fin.ofNat 8 (b (q + 25) % 8)
            floorCode := Fin.ofNat 32 (b (q + 26) % 32)
            holdLimit := b (q + 27)
            graceCode := Fin.ofNat 16 (b (q + 28) % 16)
            bandCode := Fin.ofNat 4 (b (q + 28) / 16 % 4) }
        let present := bit (q + 28) 7
        t.slots[p].present = present ∧ t.slots[p].body = some f
        ∧ (t.slots[p].valid = true ↔ present = true ∧ 1 ≤ f.holdLimit ∧ f.holdLimit ≤ 240
          ∧ ∀ k, floorOf f + 5 ≤ setpointOf f k ∧ setpointOf f k < c.overtemp))
      ∧ t.fsc = { s.fsc with shed := if s.fsc.feederWarn then .warned else s.fsc.shed }
      ∧ t.hdf = { s.hdf with windowTimer := some 0 }
      ∧ t.hbp = { s.hbp with path := if s.hbp.lineIdle then .ready else .syncing }
      ∧ (s.svl.inProgress = none → t.svl = { s.svl with
          receiver := .hunting, expected := 0, gapTimer := none, kept := [], rate := c.rate, pendingRate := none })
      ∧ (s.svl.inProgress ≠ none → t.svl = { s.svl with pendingRate := some c.rate })
      ∧ (∀ n,
        let l := { s.locker n with trayPresent := trays.getLsbD n.val }
        (c.hideMask.getLsbD n.val = true → t.locker n = { l with state := .out, hidden := true }.refresh)
        ∧ (c.hideMask.getLsbD n.val = false → trays.getLsbD n.val = true → t.locker n =
          { l with state := .lockout, lockoutCause := some .restart, tamper := !l.doorShut }.refresh)
        ∧ (c.hideMask.getLsbD n.val = false → trays.getLsbD n.val = false → t.locker n =
          { l with state := .free, tamper := !l.doorShut }.refresh))
      ∧ t.filing = s.filing ∧ t.bkc = s.bkc ∧ t.pnl = s.pnl ∧ t.ocl = s.ocl ∧ t.pending = s.pending
      ∧ t.overtaken = s.overtaken)

/-! ### Profiles and the scan -/

/-- R43: the active segment is the smallest whose end lies beyond the hold elapsed, and segment 12 where none does; at a
hold elapsed of 0 it is segment 1. Segments are counted from 0 here, and `endOf p k` is E_k. R36 to R42: the ends are sums
of the durations of the time codes, and the setpoints, the floor, the grace, the hold limit and the margins are those of
the formulas and tables. -/
def Obligations.ActiveSegmentIsFirstUnfinished : Prop :=
  ∀ (p : Profile) (e : Nat),
    (∀ k : Fin 12, e < endOf p (k.val + 1) → (∀ j : Fin 12, j < k → endOf p (j.val + 1) ≤ e) → activeSegment p e = k)
    ∧ (endOf p 12 ≤ e → activeSegment p e = 11)
    ∧ activeSegment p 0 = 0
    ∧ (∀ j, j ≤ 12 → endOf p j = (((List.finRange 12).take j).map fun k =>
        ([15, 30, 45, 60, 90, 120, 180, 240, 300, 420, 600, 900, 1200, 1800, 2700, 3600] : List Nat).getD
          p.segments[k].timeCode.val 0).sum)
    ∧ (∀ k : Fin 12, (setpointOf p k : Int) =
        let sum : Int := 80 + 4 * p.segments[k].levelCode.val
          + (if p.offsetMinus then -(p.offsetAmount.val : Int) else p.offsetAmount.val)
        if sum < 80 then 80 else if 204 < sum then 204 else sum)
    ∧ (∀ x, activeSetpoint p x = setpointOf p (activeSegment p x)) ∧ preheatSetpoint p = setpointOf p 0
    ∧ floorOf p = 80 + 4 * p.floorCode.val ∧ graceOf p = 30 * p.graceCode.val ∧ holdLimitOf p = 60 * p.holdLimit
    ∧ (p.bandCode = 0 → lowerMargin p = 2 ∧ upperMargin p = 0)
    ∧ (p.bandCode = 1 → lowerMargin p = 4 ∧ upperMargin p = 1)
    ∧ (p.bandCode = 2 → lowerMargin p = 6 ∧ upperMargin p = 2)
    ∧ (p.bandCode = 3 → lowerMargin p = 8 ∧ upperMargin p = 2)
    ∧ (∀ k : Fin 11, activeSegment p (endOf p (k.val + 1)) = k.succ)

/-- R53: the reading that three samples give: the median of three valid ones, the lower of two, FAULT of fewer. -/
def Obligations.ReadingOfThreeSamples : Prop :=
  ∀ a b c : Fin 255,
    (∃ m, readingOf (.valid a) (.valid b) (.valid c) = .valid m ∧ (m = a ∨ m = b ∨ m = c)
      ∧ 2 ≤ ([a, b, c].filter fun x => decide (x ≤ m)).length
      ∧ 2 ≤ ([a, b, c].filter fun x => decide (m ≤ x)).length)
    ∧ (∀ r ∈ [readingOf .fault (.valid a) (.valid b), readingOf (.valid a) .fault (.valid b),
        readingOf (.valid a) (.valid b) .fault], r = .valid (if a ≤ b then a else b))
    ∧ (∀ r ∈ [readingOf (.valid a) .fault .fault, readingOf .fault (.valid a) .fault,
        readingOf .fault .fault (.valid a), readingOf .fault .fault .fault], r = .fault)

/-- R52, R53, R55, R63: a scan of a locker that is not supervised takes the sample and the reading, and no more; in
BOOKED a FAULT reading, or one at or above the limit, switches the heater off (R80). -/
def Obligations.ScanWithoutSupervision : Prop :=
  ∀ (n : LockerNo) (x : Reading) (s : State), s.running = true →
    let l := s.locker n
    let r := readingOf l.ring1 l.ring2 x
    let l1 := { l with ring0 := l.ring1, ring1 := l.ring2, ring2 := x, reading := r }
    (l.state ≠ .booked → l.state ≠ .holding → l.state ≠ .opened →
      exec (.scanEvent n x) s = .next (s.setLocker n l1))
    ∧ (l.state = .booked → (∃ v, r = .valid v ∧ v.val < s.cfg.overtemp) →
      exec (.scanEvent n x) s = .next (s.setLocker n l1))
    ∧ (l.state = .booked → (r = .fault ∨ ∃ v, r = .valid v ∧ s.cfg.overtemp ≤ v.val) →
      exec (.scanEvent n x) s = .next (s.setLocker n { l1 with heaterOn := false, duty := 0 }))

/-- R55 to R61, R63, R19: a scan of a supervised locker counts the hold, and raises the first cause whose condition
holds: it locks a HOLDING locker out, and is deferred in OPEN unless a cause is deferred already. -/
def Obligations.ScanUnderSupervision : Prop :=
  ∀ (n : LockerNo) (x : Reading) (s : State), s.running = true →
    let l := s.locker n
    l.state = .holding ∨ l.state = .opened →
    let p := s.profileOf l
    let r := readingOf l.ring1 l.ring2 x
    let below : Bool := match r with
      | .valid v => decide (v.val < floorOf p)
      | .fault => false
    let above : Bool := match r with
      | .valid v => decide (s.cfg.overtemp ≤ v.val)
      | .fault => false
    let run := match r with
      | .valid v => if v.val < floorOf p then min 65535 (l.belowRun + 1) else 0
      | .fault => l.belowRun
    let off : Bool := decide (l.state = .holding) && (above || decide (r = .fault))
    let l1 : Locker := { l with
      ring0 := l.ring1
      ring1 := l.ring2
      ring2 := x
      reading := r
      holdElapsed := min 65535 (l.holdElapsed + 1)
      minReading := match r, l.minReading with
        | .valid v, some m => some (if v ≤ m then v else m)
        | .valid v, none => some v
        | .fault, m => m
      belowRun := run
      belowTotal := if below then min 65535 (l.belowTotal + 1) else l.belowTotal
      belowLongest := if below then max l.belowLongest run else l.belowLongest
      faultRun := match r with
        | .valid _ => 0
        | .fault => min 65535 (l.faultRun + 1)
      overheat := l.overheat || above
      heaterOn := l.heaterOn && !off
      duty := if off then 0 else l.duty }
    let cause : Option ScanCause :=
      if 60 * p.holdLimit ≤ l1.holdElapsed then some .expired
      else if 30 * p.graceCode.val < l1.belowRun then some .cold
      else if 30 ≤ l1.faultRun then some .sensor
      else none
    (cause = none → exec (.scanEvent n x) s = .next (s.setLocker n l1))
    ∧ (∀ c, cause = some c → l.state = .holding →
      exec (.scanEvent n x) s = .next ((s.setLocker n l1).endInLockout n c.cause c.bookingEnd))
    ∧ (∀ c, cause = some c → l.state = .opened →
      exec (.scanEvent n x) s = .next (s.setLocker n { l1 with deferredCause := some (l1.deferredCause.getD c) }))

/-- R24, R25, R28, R30, R171: what the end of a booking in a lockout does to its locker, the claim, OCL and the
pending-filing queue, in the case of room in OCL and in the case of none. -/
def Obligations.LockoutEndsTheBooking : Prop :=
  ∀ (s : State) (n : LockerNo) (c : Cause) (e : BookingEnd), e ≠ .collected →
    let l := s.locker n
    let record : OutcomeRecord :=
      { ref := l.orderRef.getD 0
        locker := n
        outcome := e
        flags := if e = .voided then ⟨false, false, false, false⟩ else ⟨l.loadedCold, false, false, l.overheat⟩
        stats := if e = .voided then none
          else some ⟨l.holdElapsed, l.minReading, l.belowTotal, l.belowLongest⟩ }
    let l1 : Locker := { l with
      state := .lockout
      lockoutCause := some c
      deferredCause := none
      latch := .locked
      unlatchTimer := none
      ajarTimer := none
      ajar := false
      heaterOn := false
      duty := 0 }
    let pnl := if l.state = .holding ∧ s.pnl.claim = some n
      then { s.pnl with claim := none, claimTimer := none } else s.pnl
    (s.ocl.records.length < 8 → s.endInLockout n c e =
      { s.putLocker n { l1 with orderRef := none, pickupCode := none, profile := none, loadedCold := false } with
        pnl := pnl
        ocl := ⟨s.ocl.records ++ [record], true⟩ })
    ∧ (8 ≤ s.ocl.records.length → s.endInLockout n c e =
      { s.putLocker n { l1 with recordPending := true } with
        pnl := pnl
        filing := s.filing ++ [⟨n, record⟩] })

/-! ### Heater windows, the share and the shed -/

/-- R71 to R74: the call, class and request that a window start sets in the record of a locker. R75: the own demand is the
summed requests of a class times P_code, class by class. -/
def Obligations.CallClassAndRequest : Prop :=
  ∀ (s : State) (l : Locker),
    let p := s.profileOf l
    let sp := if l.state = .holding then setpointOf p (activeSegment p l.holdElapsed) else setpointOf p 0
    ((l.state ≠ .booked ∧ l.state ≠ .holding) ∨ l.doorShut = false ∨ l.reading = .fault
        ∨ (∃ v, l.reading = .valid v ∧ s.cfg.overtemp ≤ v.val) →
      s.callLocker l = { l with call := false, cls := .none, request := 0 })
    ∧ (∀ v, l.state = .booked ∨ l.state = .holding → l.doorShut = true → l.reading = .valid v →
      v.val < s.cfg.overtemp →
      let rescue := decide (l.state = .holding) && decide (v.val < floorOf p + 4)
      let call := if rescue then true else if v.val + lowerMargin p < sp then true
        else if sp + upperMargin p ≤ v.val then false else l.call
      (call = false → s.callLocker l = { l with call := false, cls := .none, request := 0 })
      ∧ (call = true → s.callLocker l = { l with
        call := true
        cls := if rescue then .class1 else if l.state = .holding then .class2 else .class3
        request := if sp + 2 < v.val + 2 then 2 else if v.val + 16 < sp + 2 then 16 else max 2 (sp + 2 - v.val) }))
    ∧ (∀ n, s.setCalls.locker n = s.callLocker (s.locker n))
    ∧ (let units : HeatClass → Nat := fun c =>
        ((List.finRange 16).map fun n => if (s.locker n).cls = c then (s.locker n).request else 0).sum
      s.ownDemand = ⟨units .class1 * s.cfg.heaterCode, units .class2 * s.cfg.heaterCode,
        units .class3 * s.cfg.heaterCode⟩)

/-- R69, R70, R75, R76, R88, R92, R97, R109, R112 to R114, R120 to R122, R126, R134: a timed window start, block by
block. HDF and the lockers are those of `State.WindowPlanned` under the new allowance. -/
def Obligations.TimedWindowStartEffect : Prop :=
  ∀ (s : State) (v : Nat), s.running = true → s.hdf.windowTimer = some v → 2000 ≤ v →
    s.overtaken.windowStart = false →
    let unsent := match s.hbp.periodResult with
      | .none => s.pvt.unsentRun
      | .sent => 0
      | .pending | .dropped => min 65535 (s.pvt.unsentRun + 1)
    let peers := (s.pvt.peers.map fun p => { p with age := p.age + 1 }).filter fun p => decide (p.age < 3)
    let alone := peers.isEmpty && !s.cfg.lonePermitted
    let listen := s.pvt.listenCount + 1
    let station : Station := match s.pvt.station with
      | .listening => if listen < 2 then .listening else if alone then .isolated else .joined
      | .joined => if 3 ≤ unsent ∨ alone = true then .isolated else .joined
      | .isolated => if s.hbp.periodResult = .sent ∧ alone = false then .joined else .isolated
      | .starting => .starting
      | .halted => .halted
    let own := s.setCalls.ownDemand
    let sent : Demand := if station = .listening then ⟨0, 0, 0⟩ else own
    let shed : Shed := if s.fsc.shed = .liftDue then .clear else s.fsc.shed
    let feeder := s.cfg.feederBudget * 10 * (100 - s.cfg.margin) / 100
      * (100 - (if shed = .clear then 0 else s.cfg.shed)) / 100
    let branch := if s.cfg.localBase ≤ s.cfg.localLimit
      then some (s.cfg.branchBudget * 10 * (100 - s.cfg.margin) / 100) else none
    ∃ t, exec .timedWindowStart s = .next t
      ∧ t.pvt = { s.pvt with
          station := station
          peers := peers
          unsentRun := unsent
          listenCount := if s.pvt.station = .listening then listen else s.pvt.listenCount }
      ∧ t.hbp = { s.hbp with
          failedWindows := if s.hbp.periodResult = .pending ∨ s.hbp.periodResult = .dropped
            then min 65535 (s.hbp.failedWindows + 1) else s.hbp.failedWindows
          slot := some ⟨decide (sent.d1 = 0), s.cfg.station, sent, s.freeCount, 0⟩
          attemptCount := 0
          periodResult := .pending
          sender := if s.hbp.onLine then s.hbp.sender else .waiting
          attemptFrame := if s.hbp.onLine then .superseded else s.hbp.attemptFrame }
      ∧ t.fsc = { s.fsc with
          shed := shed
          feederBudget := feeder
          branchBudget := branch
          allowance := allowanceOf s.cfg t.pvt own feeder branch }
      ∧ s.WindowPlanned t t.fsc.allowance
      ∧ t.filing = s.filing ∧ t.slots = s.slots ∧ t.bkc = s.bkc ∧ t.pnl = s.pnl ∧ t.ocl = s.ocl ∧ t.svl = s.svl
      ∧ t.cfl = s.cfl ∧ t.pending = s.pending ∧ t.overtaken = s.overtaken

/-- R77: the fill order is the lockers sorted by class, deficit and number; each is given the lesser of its request and
what is left, so the duties add up to the budget or to the requests, and none is served after one that went short. The
items are the lockers whose request is above 0, with class, deficit and request as they stand, and a locker outside the
order has duty 0. -/
def Obligations.FillServesInOrder : Prop :=
  ∀ (items : List FillItem) (budget : Nat),
    (fillOrder items).Perm items
    ∧ (fillOrder items).Pairwise (fun a b => a.cls < b.cls
      ∨ a.cls = b.cls ∧ (b.deficit < a.deficit ∨ a.deficit = b.deficit ∧ a.locker ≤ b.locker))
    ∧ (fill budget items).map Grant.locker = items.map FillItem.locker
    ∧ dutySum (fill budget items) = min budget ((items.map FillItem.request).sum)
    ∧ (∀ pre i post, items = pre ++ i :: post →
      (fill budget items)[pre.length]? =
        some ⟨i.locker, min i.request (budget - (pre.map FillItem.request).sum)⟩)
    ∧ (∀ s : State, s.fillItems.map FillItem.locker =
        (List.finRange 16).filter (fun n => decide (0 < (s.locker n).request))
      ∧ ∀ i ∈ s.fillItems,
        let l := s.locker i.locker
        let p := s.profileOf l
        i.request = l.request
        ∧ i.cls = (match l.cls with | .none => 0 | .class1 => 1 | .class2 => 2 | .class3 => 3)
        ∧ (∀ v, l.reading = .valid v →
          (l.state = .booked → i.deficit = (setpointOf p 0 : Int) - v.val)
          ∧ (l.state = .holding → i.deficit = (setpointOf p (activeSegment p l.holdElapsed) : Int) - v.val)))
    ∧ (∀ gs : List Grant,
      ((gs.map Grant.locker).Nodup → ∀ g ∈ gs, dutyIn gs g.locker = g.duty)
      ∧ ∀ n, n ∉ gs.map Grant.locker → dutyIn gs n = 0)

/-- R78: the plan has N layers of sixteen places; each locker stands in exactly as many slots as its duty, and no slot
holds more than N lockers. Place 16 k + j of the plan, layer k and slot j, holds the locker of that place in the run, which
is the granted duties laid end to end in fill order, and is empty beyond the run. -/
def Obligations.PackPlacesEveryDuty : Prop :=
  ∀ (gs : List Grant) (n : Nat), (gs.map Grant.locker).Nodup → (∀ g ∈ gs, g.duty ≤ 16) → dutySum gs ≤ 16 * n →
    let plan := packLayers n (packRun gs)
    plan.length = n ∧ (∀ layer ∈ plan, layer.length = 16)
    ∧ (∀ g ∈ gs, (slotsOf plan g.locker).length = g.duty)
    ∧ (∀ m, m ∉ gs.map Grant.locker → slotsOf plan m = [])
    ∧ (∀ j, (lockersIn plan j).length ≤ n)
    ∧ (∀ k j, k < n → j < 16 → (plan.getD k []).getD j none =
      (gs.flatMap fun g => List.replicate g.duty g.locker)[16 * k + j]?)

/-- R69, R79: a slot boundary makes the next slot current and sets every output. The time that the boundary still lacks
passes first (the model's choice, log 3). A boundary after slot 15, which ends at a window start, and one before the first
window start, when no slot is current, do not arise by R69; they change nothing (the model's choice, log 14). -/
def Obligations.SlotBoundarySwitches : Prop :=
  ∀ (s : State) (v : Nat), s.hdf.windowTimer = some v → s.overtaken.slotBoundary = false →
    (s.hdf.currentSlot = none → exec .slotBoundary s = .next s)
    ∧ (s.hdf.currentSlot = some 15 → exec .slotBoundary s = .next s)
    ∧ (∀ j k : Fin 16, s.hdf.currentSlot = some j → k.val = j.val + 1 →
      let r := s.advance (125 * k.val - v)
      ∃ t, exec .slotBoundary s = .next t
        ∧ (∀ n, t.locker n = { r.locker n with
            heaterOn := placedIn s.hdf.plan k n && decide (0 < (s.locker n).duty) })
        ∧ t.hdf = { r.hdf with currentSlot := some k }
        ∧ t.filing = r.filing ∧ t.slots = r.slots ∧ t.hbp = r.hbp ∧ t.pvt = r.pvt ∧ t.fsc = r.fsc ∧ t.bkc = r.bkc
        ∧ t.pnl = r.pnl ∧ t.ocl = r.ocl ∧ t.svl = r.svl ∧ t.cfl = r.cfl ∧ t.pending = r.pending
        ∧ t.overtaken = r.overtaken)

/-- R123: a level walk, class by class: the three cases of the table, and the budget that each leaves. -/
def Obligations.LevelWalkFollowsTheTable : Prop :=
  ∀ (own peers : Demand) (budget : Nat),
    let row : Nat → Nat → Nat → Nat → Nat → Prop := fun d total r g after =>
      (total = 0 → g = 0 ∧ after = r)
      ∧ (0 < total → total ≤ r → g = d ∧ after = r - total)
      ∧ (r < total → g = d * r / total ∧ after = 0)
    ∃ r1 r2 r3, row own.d1 (own.d1 + peers.d1) budget (levelWalk own peers budget).d1 r1
      ∧ row own.d2 (own.d2 + peers.d2) r1 (levelWalk own peers budget).d2 r2
      ∧ row own.d3 (own.d3 + peers.d3) r2 (levelWalk own peers budget).d3 r3

/-- R116, R125, R126: the allowance by the station state, from the two walks over the sums of the peers' demands; in
JOINED it exceeds neither budget nor the own demand, and in ISOLATED not the fallback. -/
def Obligations.AllowanceByStation : Prop :=
  ∀ (c : Config) (view : Pvt) (own : Demand) (feeder : Nat) (branch : Option Nat),
    let sum : List Peer → Demand := fun ps =>
      ⟨(ps.map fun p => p.demand.d1).sum, (ps.map fun p => p.demand.d2).sum, (ps.map fun p => p.demand.d3).sum⟩
    let f := levelWalk own (sum view.peers) feeder
    let b := levelWalk own (sum (view.peers.filter fun p => p.inLocal))
    let a := allowanceOf c view own feeder branch
    (view.station = .joined → branch = none → a = f.d1 + f.d2 + f.d3)
    ∧ (view.station = .joined → ∀ lim, branch = some lim →
      a = min f.d1 (b lim).d1 + min f.d2 (b lim).d2 + min f.d3 (b lim).d3 ∧ a ≤ lim)
    ∧ (view.station = .joined → a ≤ feeder ∧ a ≤ own.d1 + own.d2 + own.d3)
    ∧ (view.station = .isolated → a = min (c.fallback * 10) (own.d1 + own.d2 + own.d3))
    ∧ (view.station = .listening → a = 0)

/-- R82, R122, R128, R131: an assertion of FEEDER-WARN. In CLEAR it puts the shed into force and brings a shed window
start, which leaves PVT and HBP as they are; in the other shed states it brings none. That an assertion in WARNED, where
none can arrive, changes the level at most is the model's choice (log 14). R83: a timed start that is due together with
the shed start, and is taken after it, does not happen; how the model knows it by its instant is the model's choice
(log 22). -/
def Obligations.FeederWarnAssertionEffect : Prop :=
  ∀ s : State,
    (s.running = false → exec .feederWarnAssertion s = .next { s with fsc := { s.fsc with feederWarn := true } })
    ∧ (s.running = true → s.fsc.shed = .releasing → exec .feederWarnAssertion s =
      .next { s with fsc := { s.fsc with feederWarn := true, shed := .warned, releaseHold := none } })
    ∧ (s.running = true → s.fsc.shed = .liftDue ∨ s.fsc.shed = .warned → exec .feederWarnAssertion s =
      .next { s with fsc := { s.fsc with feederWarn := true, shed := .warned } })
    ∧ (s.running = true → s.fsc.shed = .clear →
      let feeder := s.cfg.feederBudget * 10 * (100 - s.cfg.margin) / 100 * (100 - s.cfg.shed) / 100
      let branch := if s.cfg.localBase ≤ s.cfg.localLimit
        then some (s.cfg.branchBudget * 10 * (100 - s.cfg.margin) / 100) else none
      ∃ t, exec .feederWarnAssertion s = .next t
        ∧ t.fsc = { s.fsc with
            feederWarn := true
            shed := .warned
            feederBudget := feeder
            branchBudget := branch
            allowance := allowanceOf s.cfg s.pvt s.setCalls.ownDemand feeder branch }
        ∧ s.WindowPlanned t t.fsc.allowance
        ∧ t.hbp = s.hbp ∧ t.pvt = s.pvt
        ∧ t.filing = s.filing ∧ t.slots = s.slots ∧ t.bkc = s.bkc ∧ t.pnl = s.pnl ∧ t.ocl = s.ocl ∧ t.svl = s.svl
        ∧ t.cfl = s.cfl ∧ t.pending = s.pending
        ∧ t.overtaken = { s.overtaken with
            windowStart := s.overtaken.windowStart || s.hdf.windowTimer.any fun v => decide (2000 ≤ v)
            slotBoundary := s.overtaken.slotBoundary || (List.finRange 15).any fun j =>
              decide (s.hdf.currentSlot = some j.castSucc ∧ s.hdf.windowTimer = some (125 * (j.val + 1))) }
        ∧ (∀ v, s.hdf.windowTimer = some v → 2000 ≤ v → exec .timedWindowStart t =
          .next { t with overtaken := { t.overtaken with windowStart := false } }))

/-- R130: a release of FEEDER-WARN in WARNED, the one shed state in which it arrives. -/
def Obligations.FeederWarnReleaseStartsTheHold : Prop :=
  ∀ s : State, s.running = true → s.fsc.shed = .warned →
    exec .feederWarnRelease s =
        .next { s with fsc := { s.fsc with feederWarn := false, shed := .releasing, releaseHold := some 0 } }
      ∧ Shed.inForce .releasing = true

/-- R133: at 10 s the release hold timer becomes idle and the shed is due to lift; an assertion together with the expiry
leaves WARNED with the timer idle in either order. -/
def Obligations.ReleaseHoldExpiryMakesLiftDue : Prop :=
  ∀ s : State, s.fsc.releaseHold = some 10000 →
    exec .releaseHoldExpiry s = .next { s with fsc := { s.fsc with shed := .liftDue, releaseHold := none } }
      ∧ Shed.inForce .liftDue = true
      ∧ (s.running = true → s.fsc.shed = .releasing →
        let warned := { s with fsc := { s.fsc with feederWarn := true, shed := .warned, releaseHold := none } }
        exec .feederWarnAssertion { s with fsc := { s.fsc with shed := .liftDue, releaseHold := none } } = .next warned
        ∧ exec .feederWarnAssertion s = .next warned
        ∧ exec .releaseHoldExpiry warned = .next warned)

/-! ### Locker doors and timers -/

/-- R9, R10, R12: the door of a locker opens, by the locker's state. -/
def Obligations.DoorOpenByState : Prop :=
  ∀ (n : LockerNo) (s : State), (s.locker n).doorShut = true →
    let l := { s.locker n with doorShut := false }
    (l.state = .out → exec (.doorOpenEvent n) s = .next (s.setLocker n l))
    ∧ (l.state = .free ∨ l.state = .lockout ∨ l.state = .filing →
      exec (.doorOpenEvent n) s = .next (s.putLocker n { l with tamper := true })
      ∧ (l.ajar = false → ({ l with tamper := true } : Locker).refresh.indicator = .slow))
    ∧ (l.state = .booked →
      exec (.doorOpenEvent n) s = .next (s.putLocker n { l with tamper := true, heaterOn := false, duty := 0 })
      ∧ (l.ajar = false → ({ l with tamper := true } : Locker).refresh.indicator = .slow))
    ∧ (l.state = .holding → exec (.doorOpenEvent n) s =
      .next ((s.putLocker n { l with tamper := true }).endInLockout n .tamper .tamper))
    ∧ (l.state = .loading ∨ l.state = .opened ∨ l.state = .clearing →
      exec (.doorOpenEvent n) s = .next (s.putLocker n { l with unlatchTimer := none, ajarTimer := some 0 }))

/-- R10, R13: the door of a locker with its tamper flag set closes: the tray tells a foreign object. Without the flag,
the close of a locked locker moves only the pins. -/
def Obligations.DoorCloseAfterForcedOpening : Prop :=
  ∀ (n : LockerNo) (tray : Bool) (s : State), (s.locker n).doorShut = false → (s.locker n).LatchLaw →
    let l := { s.locker n with doorShut := true, trayPresent := tray, ajarTimer := none, ajar := false }
    let l1 := { l with tamper := false }
    let out : Locker := { l1 with
      state := .lockout
      lockoutCause := some .foreign
      deferredCause := none
      latch := .locked
      unlatchTimer := none
      heaterOn := false
      duty := 0 }
    (l.tamper = true → l.state = .free ∨ l.state = .filing →
      exec (.doorCloseEvent n tray) s = .next (s.putLocker n (if tray then out else l1)))
    ∧ (l.tamper = true → l.state = .booked → exec (.doorCloseEvent n tray) s =
      .next (if tray then (s.setLocker n l1).endInLockout n .foreign .voided else s.putLocker n l1))
    ∧ (l.tamper = true → l.state = .lockout → exec (.doorCloseEvent n tray) s = .next (s.putLocker n l1))
    ∧ (l.tamper = false → l.latch = .locked → exec (.doorCloseEvent n tray) s = .next (s.setLocker n l))

/-- R16, R54, R148: the door of a LOADING locker closes. On a tray the hold starts; without one the locker goes back to
BOOKED and its entry counts as skipped. The next entry of the chain has its turn. -/
def Obligations.DoorCloseInLoading : Prop :=
  ∀ (n : LockerNo) (s : State), (s.locker n).doorShut = false → (s.locker n).LatchLaw → (s.locker n).state = .loading →
    let l := { s.locker n with
      doorShut := true
      latch := .locked
      unlatchTimer := none
      ajarTimer := none
      ajar := false }
    exec (.doorCloseEvent n true) s = .next ((s.putLocker n { l with
        trayPresent := true
        state := .holding
        holdElapsed := 0
        minReading := none
        belowRun := 0
        belowTotal := 0
        belowLongest := 0
        faultRun := 0
        overheat := false }).giveTurn s.bkc.entries.tail)
    ∧ exec (.doorCloseEvent n false) s = .next (({ s.putLocker n { l with
        trayPresent := false
        state := .booked
        loadedCold := false } with
        bkc := { s.bkc with skipped := s.bkc.skipped + 1 } }).giveTurn s.bkc.entries.tail)

/-- R21, R22, R28, R30: the door of an OPEN locker closes. On a tray the locker is held again, or locked out with its
deferred cause; without one the meal is collected and its record filed or queued. -/
def Obligations.DoorCloseInOpen : Prop :=
  ∀ (n : LockerNo) (s : State), (s.locker n).doorShut = false → (s.locker n).LatchLaw → (s.locker n).state = .opened →
    let l := { s.locker n with doorShut := true, ajarTimer := none, ajar := false }
    let shut := { l with latch := .locked, unlatchTimer := none }
    let record : OutcomeRecord :=
      { ref := l.orderRef.getD 0
        locker := n
        outcome := .collected
        flags := ⟨l.loadedCold, decide (l.deferredCause = some .expired),
          decide (l.deferredCause = some .cold ∨ 0 < l.belowTotal), l.overheat⟩
        stats := some ⟨l.holdElapsed, l.minReading, l.belowTotal, l.belowLongest⟩ }
    (l.deferredCause = none → exec (.doorCloseEvent n true) s =
      .next (s.putLocker n { shut with trayPresent := true, state := .holding }))
    ∧ (∀ c, l.deferredCause = some c → exec (.doorCloseEvent n true) s =
      .next ((s.setLocker n { l with trayPresent := true }).endInLockout n c.cause c.bookingEnd))
    ∧ (s.ocl.records.length < 8 → exec (.doorCloseEvent n false) s =
      .next { s.putLocker n { shut with
          trayPresent := false
          state := .free
          deferredCause := none
          orderRef := none
          pickupCode := none
          profile := none
          loadedCold := false } with
        ocl := ⟨s.ocl.records ++ [record], true⟩ })
    ∧ (8 ≤ s.ocl.records.length → exec (.doorCloseEvent n false) s =
      .next { s.putLocker n { shut with
          trayPresent := false
          state := .filing
          deferredCause := none
          recordPending := true } with
        filing := s.filing ++ [⟨n, record⟩] })

/-- R27: the door of a CLEARING locker closes: on a tray it is locked out again; without one it is free, or waits for
its record to be filed. -/
def Obligations.DoorCloseInClearing : Prop :=
  ∀ (n : LockerNo) (s : State), (s.locker n).doorShut = false → (s.locker n).LatchLaw → (s.locker n).state = .clearing →
    let l := { s.locker n with
      doorShut := true
      latch := .locked
      unlatchTimer := none
      ajarTimer := none
      ajar := false }
    exec (.doorCloseEvent n true) s = .next (s.putLocker n { l with trayPresent := true, state := .lockout })
    ∧ (l.recordPending = true → exec (.doorCloseEvent n false) s =
      .next (s.putLocker n { l with trayPresent := false, state := .filing }))
    ∧ (l.recordPending = false → exec (.doorCloseEvent n false) s =
      .next (s.putLocker n { l with trayPresent := false, state := .free, lockoutCause := none }))

/-- R9, R10, R16, R23, R27: the ends of a locker's two timers. The unlatch timer relatches the locker, by its state; the
ajar timer sets the ajar flag, and the indicator shows FAST. -/
def Obligations.LockerTimersExpire : Prop :=
  ∀ (n : LockerNo) (s : State) (v : Nat),
    let l := { s.locker n with unlatchTimer := none }
    let shut := { l with latch := .locked, ajarTimer := none, ajar := false }
    ((s.locker n).unlatchTimer = some v → 20000 ≤ v →
      (l.state = .loading → exec (.unlatchTimerExpiry n) s =
        .next (({ s.putLocker n { shut with state := .booked, loadedCold := false } with
          bkc := { s.bkc with skipped := s.bkc.skipped + 1 } }).giveTurn s.bkc.entries.tail))
      ∧ (l.state = .opened → l.deferredCause = none →
        exec (.unlatchTimerExpiry n) s = .next (s.putLocker n { shut with state := .holding }))
      ∧ (l.state = .opened → ∀ c, l.deferredCause = some c →
        exec (.unlatchTimerExpiry n) s = .next ((s.setLocker n l).endInLockout n c.cause c.bookingEnd))
      ∧ (l.state = .clearing → exec (.unlatchTimerExpiry n) s = .next (s.putLocker n { shut with state := .lockout })))
    ∧ ((s.locker n).ajarTimer = some v → 120000 ≤ v →
      exec (.ajarTimerExpiry n) s = .next (s.putLocker n { s.locker n with ajarTimer := none, ajar := true })
      ∧ ({ s.locker n with ajarTimer := none, ajar := true } : Locker).refresh.indicator = .fast)

/-- R11, R15, R147, R149: the turn of the first entry whose locker is still BOOKED under its ref; the entries before it
are passed over and counted, and with none left the chain becomes idle. -/
def Obligations.ChainTurnPassesOver : Prop :=
  ∀ (s : State) (es : List ChainEntry),
    let waits : ChainEntry → Bool := fun e =>
      decide ((s.locker e.locker).state = .booked) && decide ((s.locker e.locker).orderRef = some e.ref)
    let left := es.dropWhile fun e => !waits e
    let skipped := s.bkc.skipped + (es.length - left.length)
    (left = [] → s.giveTurn es =
      { s with bkc := { s.bkc with active := false, entries := [], remaining := 0, skipped := skipped } })
    ∧ (∀ e more, left = e :: more →
      let l := s.locker e.locker
      s.giveTurn es = { s.putLocker e.locker { l with
          state := .loading
          latch := .released
          tamper := false
          unlatchTimer := if l.doorShut then some 0 else none
          ajarTimer := if l.doorShut then none else some 0
          heaterOn := false
          duty := 0
          loadedCold := l.loadedCold || (s.bkc.force && !s.ready l) } with
        bkc := { s.bkc with active := true, entries := left, remaining := left.length, skipped := skipped } })

/-! ### The heat bus and the peers -/

/-- R93, R94, R95, R98: an attempt begins on an idle line; the value that cell 1 reads lets it go on, loses it, or makes
it an errored attempt, the sixteenth of which drops the frame. That ATTEMPT_START carries the value that cell 1 reads and
compares it at the same event, and that a falling edge which finds the sender waiting does the same, is the model's choice
(log 9). That a ready receive path has no cell counted or kept is the bus law (`State.BusLaw`). -/
def Obligations.AttemptBegins : Prop :=
  ∀ (read : Bool) (f : DemandFrame) (s : State), s.hbp.path = .ready → s.hbp.sender = .waiting →
    s.hbp.slot = some f → s.hbp.cellsReceived = 0 → s.hbp.cells = [] →
    let h := { s.hbp with lineIdle := false, path := .inFrame, cellsReceived := 1, cells := [read] }
    exec (.fallingEdge read) s = exec (.attemptStart read) s
    ∧ (read = f.urgency → exec (.attemptStart read) s =
      .next { s with hbp := { h with sender := .arbitrating, attemptFrame := .current, driven := some f } })
    ∧ (f.urgency = true → read = false → exec (.attemptStart read) s =
      .next { s with hbp := { h with sender := .waiting, attemptFrame := .none, driven := none } })
    ∧ (f.urgency = false → read = true → s.hbp.attemptCount < 15 → exec (.attemptStart read) s =
      .next { s with hbp := { h with
        sender := .waiting
        attemptFrame := .none
        driven := none
        erroredAttempts := min 65535 (s.hbp.erroredAttempts + 1)
        attemptCount := s.hbp.attemptCount + 1 } })
    ∧ (f.urgency = false → read = true → 15 ≤ s.hbp.attemptCount → exec (.attemptStart read) s =
      .next { s with hbp := { h with
        sender := .idle
        attemptFrame := .none
        driven := none
        erroredAttempts := min 65535 (s.hbp.erroredAttempts + 1)
        attemptCount := 0
        slot := none
        periodResult := .dropped } })

/-- R98, R94, R95: a falling edge at each receive path. In frame the cell is counted and kept, and a sender on the line
compares it with what it sent. That a falling edge carries the value sampled in its cell, and that the comparison is made
at that event, is the model's choice (log 9), and so is that the sender becomes sending at the edge of cell 7 (log 27). How
many values are kept is the bus law (`State.BusLaw`). -/
def Obligations.FallingEdgeTakesACell : Prop :=
  ∀ (read : Bool) (s : State),
    let h := { s.hbp with lineIdle := false }
    let k := s.hbp.cellsReceived + 1
    let g := { h with cellsReceived := k, cells := h.cells ++ [read] }
    (s.hbp.path = .off ∨ s.hbp.path = .syncing ∨ s.hbp.path = .skipping →
      exec (.fallingEdge read) s = .next { s with hbp := h })
    ∧ (s.hbp.path = .ready → s.hbp.sender = .idle → s.hbp.cellsReceived = 0 → s.hbp.cells = [] →
      exec (.fallingEdge read) s = .next { s with hbp := { g with path := .inFrame } })
    ∧ (s.hbp.path = .inFrame → s.hbp.sender = .idle ∨ s.hbp.sender = .waiting →
      s.hbp.cells.length = s.hbp.cellsReceived → k ≤ 78 → exec (.fallingEdge read) s = .next { s with hbp := g })
    ∧ (s.hbp.path = .inFrame → 79 ≤ k →
      exec (.fallingEdge read) s = .next { s with hbp := { h with
        cellsReceived := 79
        sender := if s.hbp.sender = .arbitrating then .sending else s.hbp.sender } })
    ∧ (∀ f : DemandFrame, s.hbp.path = .inFrame → s.hbp.onLine = true → s.hbp.driven = some f →
      s.hbp.cells.length = s.hbp.cellsReceived → k ≤ 78 →
      let sent := f.cells.getD (k - 1) true
      let g1 := { g with sender := if 7 ≤ k then .sending else g.sender }
      (read = sent → exec (.fallingEdge read) s = .next { s with hbp := g1 })
      ∧ (k ≤ 6 → sent = true → read = false → exec (.fallingEdge read) s =
        .next { s with hbp := { g with sender := .waiting, attemptFrame := .none, driven := none } })
      ∧ (read ≠ sent → 7 ≤ k ∨ sent = false →
        exec (.fallingEdge read) s = .next { s with hbp := g1.errorAttempt }))

/-- R94, R95, R97, R98: the three rows that tell HBP how the cell on the line went, and what an errored attempt does. That
these rows speak of the cell already counted and overwrite the value kept for it is the model's choice (log 9), and so is
that a framing error beyond cell 78 makes an attempt errored that is still on the line (log 23). -/
def Obligations.LostAndErroredAttempts : Prop :=
  (∀ h : Hbp,
    let g := { h with
      sender := .waiting
      attemptFrame := .none
      driven := none
      erroredAttempts := min 65535 (h.erroredAttempts + 1) }
    (h.attemptFrame ≠ .current → h.errorAttempt = g)
    ∧ (h.attemptFrame = .current → h.attemptCount < 15 →
      h.errorAttempt = { g with attemptCount := h.attemptCount + 1 })
    ∧ (h.attemptFrame = .current → 15 ≤ h.attemptCount →
      h.errorAttempt = { g with sender := .idle, slot := none, attemptCount := 0, periodResult := .dropped }))
  ∧ ∀ s : State,
    let k := s.hbp.cellsReceived
    (s.hbp.sender = .arbitrating → 1 ≤ k → k ≤ 6 → s.hbp.sentCell = true →
      exec .arbitrationLost s = .next { s with hbp := { s.hbp with
        cells := s.hbp.cells.take (k - 1) ++ [false]
        sender := .waiting
        attemptFrame := .none
        driven := none } })
    ∧ (s.hbp.onLine = true → k ≤ 78 → 7 ≤ k ∨ s.hbp.sentCell = false →
      exec (.erroredAttempt .differs) s = .next { s with hbp :=
        { s.hbp with cells := s.hbp.cells.take (k - 1) ++ [!s.hbp.sentCell] }.errorAttempt })
    ∧ (s.hbp.onLine = true →
      exec (.erroredAttempt .framing) s = .next { s with hbp := { s.hbp with path := .skipping }.errorAttempt })
    ∧ (s.hbp.path = .inFrame → s.hbp.onLine = true →
      exec .framingError s = .next { s with hbp := { s.hbp with path := .skipping }.errorAttempt })
    ∧ (s.hbp.path = .inFrame → s.hbp.onLine = false →
      exec .framingError s = .next { s with hbp := { s.hbp with path := .skipping } })

/-- R96, R97, R100: the frame end of an own attempt that has driven its 78 cells: a current frame is sent, a superseded
one leaves the newer frame waiting, and PVT is handed nothing. -/
def Obligations.FrameEndCompletesAttempt : Prop :=
  ∀ s : State, s.hbp.path = .inFrame → s.hbp.onLine = true → 78 ≤ s.hbp.cellsReceived →
    let h := { s.hbp with
      lineIdle := true
      path := .ready
      cellsReceived := 0
      cells := []
      attemptFrame := .none
      driven := none }
    (s.hbp.attemptFrame = .current → exec .frameEnd s =
      .next { s with hbp := { h with slot := none, sender := .idle, attemptCount := 0, periodResult := .sent } })
    ∧ (s.hbp.attemptFrame ≠ .current → exec .frameEnd s = .next { s with hbp := { h with sender := .waiting } })

/-- R91, R98, R99, R100, R107, R108: the frame end of any other frame: one that passes its two checks is counted and
handed to PVT, one that fails is discarded. An own attempt cut short of its 78 cells is errored first (log 10). PVT's
table keeps one record for each number: storing a frame creates it or refreshes it, and leaves every other record. -/
def Obligations.FrameEndHandsOnOrDiscards : Prop :=
  (∀ s : State,
    let h := { s.hbp with lineIdle := true, path := .ready, cellsReceived := 0, cells := [] }
    let f := DemandFrame.ofCells s.hbp.cells
    (s.hbp.path = .off ∨ s.hbp.path = .ready →
      exec .frameEnd s = .next { s with hbp := { s.hbp with lineIdle := true } })
    ∧ (s.hbp.path = .syncing → exec .frameEnd s = .next { s with hbp := h })
    ∧ (s.hbp.path = .skipping → exec .frameEnd s =
      .next { s with hbp := { h with framesDiscarded := min 65535 (s.hbp.framesDiscarded + 1) } })
    ∧ (s.hbp.path = .inFrame → s.hbp.onLine = false →
      s.hbp.cellsReceived ≠ 78 ∨ f.checkWord ≠ checkOfCells s.hbp.cells → exec .frameEnd s =
      .next { s with hbp := { h with framesDiscarded := min 65535 (s.hbp.framesDiscarded + 1) } })
    ∧ (s.hbp.path = .inFrame → s.hbp.onLine = false → s.hbp.cellsReceived = 78 →
      f.checkWord = checkOfCells s.hbp.cells →
      let h1 := { h with framesReceived := min 65535 (s.hbp.framesReceived + 1) }
      let stored := s.cfg.globalBase ≤ f.station ∧ f.station ≤ s.cfg.globalLimit
      (f.station = s.cfg.station → exec .frameEnd s =
        .next { s with hbp := h1, pvt := { s.pvt with clashes := min 65535 (s.pvt.clashes + 1) } })
      ∧ (f.station ≠ s.cfg.station → ¬ stored → exec .frameEnd s =
        .next { s with hbp := h1, pvt := { s.pvt with outOfRange := min 65535 (s.pvt.outOfRange + 1) } })
      ∧ (f.station ≠ s.cfg.station → stored →
        let inLocal := decide (s.cfg.localBase ≤ f.station) && decide (f.station ≤ s.cfg.localLimit)
        exec .frameEnd s = .next { s with hbp := h1, pvt := { s.pvt with
          peers := storePeer ⟨f.station, f.demand, min 16 f.free, inLocal, 0⟩ s.pvt.peers } }))
    ∧ (s.hbp.path = .inFrame → s.hbp.onLine = true → s.hbp.cellsReceived < 78 →
      exec .frameEnd s = exec .frameEnd { s with hbp := { s.hbp with lineIdle := true }.errorAttempt }))
  ∧ ∀ (fresh : Peer) (ps : List Peer), ps.Pairwise (fun p q => p.station < q.station) →
    (storePeer fresh ps).Pairwise (fun p q => p.station < q.station)
    ∧ (∀ q, q.station ≠ fresh.station → (q ∈ storePeer fresh ps ↔ q ∈ ps))
    ∧ ((∀ p ∈ ps, p.station ≠ fresh.station) → fresh ∈ storePeer fresh ps)
    ∧ (∀ p ∈ ps, p.station = fresh.station →
      { p with demand := fresh.demand, free := fresh.free, age := 0 } ∈ storePeer fresh ps)

/-- R88, R89, R99: the 78 cells of a frame carry every field at every value that its cells admit, in the order of R88's
table and each most significant bit first, and a check word that passes, the ones'-complement sum of R89's five words. The
fields read from any 78 cells are those whose cells they are. -/
def Obligations.DemandFrameCellsRoundTrip : Prop :=
  let bits : Nat → Nat → List Bool := fun w x => (List.range w).map fun i => decide (x / 2 ^ (w - 1 - i) % 2 = 1)
  let add : Nat → Nat → Nat := fun a b => if 65535 < a + b then a + b - 65536 + 1 else a + b
  let fields : DemandFrame → List Bool := fun f => [f.urgency] ++ bits 5 f.station ++ bits 16 f.demand.d1
    ++ bits 16 f.demand.d2 ++ bits 16 f.demand.d3 ++ bits 5 f.free ++ bits 3 f.pad
  (∀ f : DemandFrame, f.station < 32 → f.demand.d1 < 65536 → f.demand.d2 < 65536 → f.demand.d3 < 65536 →
    f.free < 32 → f.pad < 8 →
    f.cells.length = 78 ∧ DemandFrame.ofCells f.cells = f ∧ checkOfCells f.cells = f.checkWord ∧ f.checkWord < 65536
    ∧ f.cells = fields f ++ bits 16 f.checkWord
    ∧ f.checkWord = add (add (add (add (f.urgency.toNat * 32 + f.station) f.demand.d1) f.demand.d2) f.demand.d3)
        (f.free * 8 + f.pad))
  ∧ ∀ cells : List Bool, cells.length = 78 →
    fields (DemandFrame.ofCells cells) ++ bits 16 (checkOfCells cells) = cells

/-! ### The panel -/

/-- R160, R161, R166, R167: PRESENT, by the throttle and by the state of the locker that holds the code. It breaks the
claim in every case, and overtakes an expiry of the claim that is due at the same instant (the model's choice, log 22). -/
def Obligations.PresentAnswers : Prop :=
  ∀ (code : Code) (s : State), s.running = true → s.pnl.sending = none →
    let overtaken := { s.overtaken with
      claim := s.overtaken.claim || s.pnl.claimTimer.any fun v => decide (15000 ≤ v) }
    let broken := { s with pnl := { s.pnl with claim := none, claimTimer := none }, overtaken := overtaken }
    let missed : State := { broken with pnl := { broken.pnl with missCount := s.pnl.missCount + 1 } }
    let shut : State := { broken with pnl := { broken.pnl with
      missCount := 5, throttled := true, throttleTimer := some 0 } }
    let missAnswer : Prop :=
      (s.pnl.missCount < 4 → exec (.present code) s = .next (missed.panelAnswered 1 .noMatch []))
      ∧ (s.pnl.missCount = 4 → exec (.present code) s = .next (shut.panelAnswered 1 .noMatch []))
    (∀ v, s.pnl.throttled = true → s.pnl.throttleTimer = some v → v ≤ 60000 →
      exec (.present code) s = .next (broken.panelAnswered 1 .throttled
        [BitVec.ofNat 8 (if v = 60000 then 1 else (60000 - v + 999) / 1000)]))
    ∧ (s.pnl.throttled = false → (∀ n, (s.locker n).pickupCode ≠ some code) → missAnswer)
    ∧ (∀ n, s.pnl.throttled = false → (∀ m, (s.locker m).pickupCode = some code ↔ m = n) →
      ((s.locker n).state = .holding → exec (.present code) s =
        .next ({ broken with pnl := { s.pnl with
          claim := some n, claimTimer := some 0, missCount := 0 } }.panelAnswered 1 .offer [BitVec.ofNat 8 n.val]))
      ∧ ((s.locker n).state = .booked ∨ (s.locker n).state = .loading →
        exec (.present code) s = .next (broken.panelAnswered 1 .notReady []))
      ∧ ((s.locker n).state = .opened → exec (.present code) s = .next (broken.panelAnswered 1 .busy []))
      ∧ ((s.locker n).state = .lockout →
        exec (.present code) s = .next (broken.panelAnswered 1 .lockedOut [BitVec.ofNat 8 n.val]))
      ∧ ((s.locker n).state = .clearing ∨ (s.locker n).state = .filing → missAnswer))

/-- R20, R162: CONFIRM opens the locker that the claim names and consumes the claim; any other CONFIRM is answered LAPSED
and changes nothing. -/
def Obligations.ConfirmOpensTheClaimedLocker : Prop :=
  ∀ (b : Byte) (s : State), s.running = true → s.pnl.sending = none →
    (∀ n : LockerNo, b.toNat = n.val → s.pnl.claim = some n → (s.locker n).state = .holding →
      let l := s.locker n
      exec (.confirm b) s = .next ({ s.putLocker n { l with
          state := .opened
          latch := .released
          tamper := false
          unlatchTimer := if l.doorShut then some 0 else none
          ajarTimer := if l.doorShut then none else some 0
          deferredCause := none
          heaterOn := false
          duty := 0 } with
        pnl := { s.pnl with claim := none, claimTimer := none } }.panelAnswered 2 .opened [b]))
    ∧ ((∀ n : LockerNo, s.pnl.claim = some n → b.toNat ≠ n.val ∨ (s.locker n).state ≠ .holding) →
      exec (.confirm b) s = .next (s.panelAnswered 2 .lapsed []))

/-- R164: ABANDON breaks the claim, if there is one, and is answered OK, whatever the throttle; the miss count and the
throttle stay. -/
def Obligations.AbandonBreaksTheClaim : Prop :=
  ∀ s : State, s.running = true → s.pnl.sending = none →
    exec .abandon s =
        .next ({ s with pnl := { s.pnl with claim := none, claimTimer := none } }.panelAnswered 3 .ok [])
      ∧ (s.pnl.claim = none → s.pnl.claimTimer = none → exec .abandon s = .next (s.panelAnswered 3 .ok []))

/-- R165, R167, R26: PRESENT-STAFF, in the order of its checks; one that passes them releases the locked-out locker. -/
def Obligations.PresentStaffAnswers : Prop :=
  ∀ (code : Code) (b : Byte) (s : State), s.running = true → s.pnl.sending = none →
    (∀ v, s.pnl.throttled = true → s.pnl.throttleTimer = some v → v ≤ 60000 →
      exec (.presentStaff code b) s =
        .next (s.panelAnswered 4 .throttled [BitVec.ofNat 8 (if v = 60000 then 1 else (60000 - v + 999) / 1000)]))
    ∧ (s.pnl.throttled = false → code ≠ s.cfg.staffCode →
      (s.pnl.missCount < 4 → exec (.presentStaff code b) s =
        .next ({ s with pnl := { s.pnl with missCount := s.pnl.missCount + 1 } }.panelAnswered 4 .noMatch []))
      ∧ (s.pnl.missCount = 4 → exec (.presentStaff code b) s =
        .next ({ s with pnl := { s.pnl with missCount := 5, throttled := true, throttleTimer := some 0 } }.panelAnswered
          4 .noMatch [])))
    ∧ (s.pnl.throttled = false → code = s.cfg.staffCode → 16 ≤ b.toNat →
      exec (.presentStaff code b) s = .next (s.panelAnswered 4 .outOfRange []))
    ∧ (∀ n : LockerNo, s.pnl.throttled = false → code = s.cfg.staffCode → b.toNat = n.val →
      let l := s.locker n
      (l.state ≠ .lockout → exec (.presentStaff code b) s = .next (s.panelAnswered 4 .wrongState []))
      ∧ (l.state = .lockout → exec (.presentStaff code b) s = .next ((s.putLocker n { l with
          state := .clearing
          latch := .released
          tamper := false
          unlatchTimer := if l.doorShut then some 0 else none
          ajarTimer := if l.doorShut then none else some 0 }).panelAnswered 4 .opened [b])))

/-- R157, R158, R163, R167: faulty frames, frames that meet a response being sent, the end of a response, and the ends of
PNL's three timers. -/
def Obligations.PanelFramesAndTimers : Prop :=
  ∀ s : State,
    (s.running = true → s.pnl.sending = none →
      exec (.panelBadMessage .noType) s = .next (s.panelAnswered 0 .badMessage [])
      ∧ ∀ t, exec (.panelBadMessage (.abandoned t)) s = .next (s.panelAnswered t .badMessage [])
        ∧ exec (.panelBadMessage (.badSum t)) s = .next (s.panelAnswered t .badMessage [])
        ∧ exec (.panelBadMessage (.badLength t)) s = .next (s.panelAnswered t .badMessage [])
        ∧ exec (.panelBadMessage (.unknownType t)) s = .next (s.panelAnswered t .unknown []))
    ∧ (s.pnl.sending ≠ none →
      exec .panelFrameDropped s = .next s.panelDropped
      ∧ (∀ m, exec (panelRow m) s = .next s.panelDropped)
      ∧ (∀ f, exec (.panelBadMessage f) s = .next s.panelDropped))
    ∧ exec .panelResponseSent s = .next { s with pnl := { s.pnl with sending := none } }
    ∧ (∀ v, s.pnl.claimTimer = some v → 15000 ≤ v → s.overtaken.claim = false →
      exec .claimTimerExpiry s = .next { s with pnl := { s.pnl with claim := none, claimTimer := none } })
    ∧ (∀ v, s.pnl.throttleTimer = some v → 60000 ≤ v → exec .throttleTimerExpiry s =
      .next { s with pnl := { s.pnl with throttled := false, throttleTimer := none, missCount := 0 } })
    ∧ (∀ v, s.pnl.gapTimer = some v → 10 ≤ v → s.overtaken.panelGap = false →
      (s.pnl.receiver = .length →
        exec .panelGapTimerExpiry s = exec (.panelBadMessage .noType) s)
      ∧ (s.pnl.receiver = .body → s.pnl.kept.length < 2 →
        exec .panelGapTimerExpiry s = exec (.panelBadMessage .noType) s)
      ∧ (∀ len t rest, s.pnl.receiver = .body → s.pnl.kept = len :: t :: rest →
        exec .panelGapTimerExpiry s = exec (.panelBadMessage (.abandoned t)) s))

/-- R158, R177: the panel receiver takes one byte; the frame that a byte completes or abandons is the message, or the
faulty frame, that the bytes kept spell. A type byte with a framing error counts as not received (the model's choice,
log 25), and a byte overtakes an expiry of the gap timer that is due at the same instant (the model's choice, log 22). -/
def Obligations.PanelReceiverTakesBytes : Prop :=
  ∀ (b : Byte) (s : State),
    let overtaken := { s.overtaken with
      panelGap := s.overtaken.panelGap || s.pnl.gapTimer.any fun v => decide (10 ≤ v) }
    (s.pnl.receiver = .hunting → b = 165 → exec (.panelByteReceived b false) s =
      .next { s with pnl := { s.pnl with receiver := .length, gapTimer := some 0, kept := [] } })
    ∧ (s.pnl.receiver = .hunting → b ≠ 165 → exec (.panelByteReceived b false) s = .next s)
    ∧ (s.pnl.receiver = .hunting → exec (.panelByteReceived b true) s = .next s)
    ∧ (s.pnl.receiver = .length → 1 ≤ b.toNat → b.toNat ≤ 5 → exec (.panelByteReceived b false) s =
      .next { s with
        pnl := { s.pnl with receiver := .body, expected := b.toNat + 1, gapTimer := some 0, kept := [b] }
        overtaken := overtaken })
    ∧ (s.pnl.receiver = .length → b.toNat = 0 ∨ 6 ≤ b.toNat →
      exec (.panelByteReceived b false) s = exec (.panelBadMessage .noType) s)
    ∧ (s.pnl.receiver = .length → exec (.panelByteReceived b true) s = exec (.panelBadMessage .noType) s)
    ∧ (s.pnl.receiver = .body → 2 ≤ s.pnl.expected → exec (.panelByteReceived b false) s =
      .next { s with
        pnl := { s.pnl with expected := s.pnl.expected - 1, gapTimer := some 0, kept := s.pnl.kept ++ [b] }
        overtaken := overtaken })
    ∧ (s.pnl.receiver = .body → s.pnl.expected = 1 →
      (∀ m, judgePanel (s.pnl.kept ++ [b]) = .ok m → exec (.panelByteReceived b false) s = exec (panelRow m) s)
      ∧ (∀ f, judgePanel (s.pnl.kept ++ [b]) = .error f →
        exec (.panelByteReceived b false) s = exec (.panelBadMessage f) s))
    ∧ (s.pnl.receiver = .body → s.pnl.kept.length < 2 →
      exec (.panelByteReceived b true) s = exec (.panelBadMessage .noType) s)
    ∧ (∀ len t rest, s.pnl.receiver = .body → s.pnl.kept = len :: t :: rest →
      exec (.panelByteReceived b true) s = exec (.panelBadMessage (.abandoned t)) s)

/-! ### The service line -/

/-- R14, R139 to R143: BOOK, by the first check that fails; one that passes them all assigns the booking to the preferred
locker if it is FREE, and else to the warmest FREE one. -/
def Obligations.BookChecksAndAssigns : Prop :=
  ∀ (ref : OrderRef) (code : Code) (profile : Byte) (preferred : Option Byte) (s : State),
    s.running = true → s.svl.inProgress = none →
    let c : Instr := .book ref code profile preferred
    let inRange := ref ≠ 0 ∧ code.toNat ≤ 999999 ∧ profile.toNat ≤ 7 ∧ ∀ b, preferred = some b → b.toNat ≤ 15
    let valid := ∀ p : ProfileNo, p.val = profile.toNat → s.slots[p].valid = true
    let dupOrder := (∃ n, (s.locker n).orderRef = some ref) ∨ ∃ r ∈ s.ocl.records, r.ref = ref
    let dupCode := (∃ n, (s.locker n).pickupCode = some code) ∨ code = s.cfg.staffCode
    let wanted : LockerNo → Prop := fun n => preferred = some (BitVec.ofNat 8 n.val)
    let rank : LockerNo → Nat := fun n => match (s.locker n).reading with
      | .fault => 0
      | .valid v => v.val + 1
    (¬ inRange → exec c s = .next (s.answered 1 .outOfRange []))
    ∧ (inRange → ¬ valid → exec c s = .next (s.answered 1 .profileInvalid []))
    ∧ (inRange → valid → dupOrder → exec c s = .next (s.answered 1 .dupOrder []))
    ∧ (inRange → valid → ¬ dupOrder → dupCode → exec c s = .next (s.answered 1 .dupCode []))
    ∧ (inRange → valid → ¬ dupOrder → ¬ dupCode →
      (∀ n, (s.locker n).state = .free →
        (wanted n ∨ (∀ m, wanted m → (s.locker m).state ≠ .free)
          ∧ ∀ m, (s.locker m).state = .free → rank m < rank n ∨ rank m = rank n ∧ n ≤ m) →
        ∃ p : ProfileNo, p.val = profile.toNat ∧ exec c s = .next ((s.putLocker n { s.locker n with
          state := .booked
          orderRef := some ref
          pickupCode := some code
          profile := some p
          loadedCold := false }).answered 1 .ok [BitVec.ofNat 8 n.val]))
      ∧ ((∀ n, (s.locker n).state ≠ .free) →
        ((∀ p ∈ s.pvt.peers, p.free = 0) → exec c s = .next (s.answered 1 .full [255]))
        ∧ (∀ p ∈ s.pvt.peers, 0 < p.free →
          (∀ q ∈ s.pvt.peers, q.free < p.free ∨ q.free = p.free ∧ p.station ≤ q.station) →
          exec c s = .next (s.answered 1 .full [BitVec.ofNat 8 p.station]))))

/-- R145, R146: LOAD, by the first check that fails; one that passes them all sets the chain up and gives its first entry
its turn. `holderOf` is the locker that holds a ref, and R45: a locker is ready in BOOKED or LOADING with a valid reading of
at least the preheat setpoint − 2. -/
def Obligations.LoadChecksAndStartsTheChain : Prop :=
  ∀ (force : Bool) (refs : List OrderRef) (s : State), s.running = true → s.svl.inProgress = none →
    let good : List OrderRef → OrderRef → Prop := fun before r => r ∉ before
      ∧ ∃ n, s.holderOf r = some n ∧ (s.locker n).state = .booked ∧ (force = true ∨ s.ready (s.locker n) = true)
    (s.bkc.active = true → exec (.load force refs) s = .next (s.answered 2 .busy []))
    ∧ (s.bkc.active = false → refs.length = 0 ∨ 9 ≤ refs.length →
      exec (.load force refs) s = .next (s.answered 2 .outOfRange []))
    ∧ (∀ before r after, s.bkc.active = false → refs = before ++ r :: after → refs.length ≤ 8 →
      (∀ a x b, before = a ++ x :: b → good a x) →
      (r ∈ before → exec (.load force refs) s = .next (s.answered 2 .dupOrder (split4 r)))
      ∧ (r ∉ before → s.holderOf r = none → exec (.load force refs) s = .next (s.answered 2 .notFound (split4 r)))
      ∧ (∀ n, r ∉ before → s.holderOf r = some n →
        ((s.locker n).state ≠ .booked → exec (.load force refs) s = .next (s.answered 2 .wrongState (split4 r)))
        ∧ ((s.locker n).state = .booked → force = false → s.ready (s.locker n) = false →
          exec (.load force refs) s = .next (s.answered 2 .notReady (split4 r)))))
    ∧ (s.bkc.active = false → 1 ≤ refs.length → refs.length ≤ 8 → (∀ a x b, refs = a ++ x :: b → good a x) →
      exec (.load force refs) s = .next (({ s with bkc := { s.bkc with skipped := 0, force := force } }.giveTurn
        (refs.filterMap fun r => (s.holderOf r).map fun n => ⟨r, n⟩)).answered 2 .ok [BitVec.ofNat 8 refs.length]))
    ∧ (∀ r n, s.holderOf r = some n → (s.locker n).orderRef = some r)
    ∧ (∀ r, s.holderOf r = none → ∀ n, (s.locker n).orderRef ≠ some r)
    ∧ (∀ (n : LockerNo) (p : ProfileNo) (f : Profile), (s.locker n).profile = some p → s.slots[p].body = some f →
      (s.ready (s.locker n) = true ↔ ((s.locker n).state = .booked ∨ (s.locker n).state = .loading)
        ∧ ∃ v, (s.locker n).reading = .valid v ∧ setpointOf f 0 ≤ v.val + 2))

/-- R17, R152, R153: ABORT-LOAD removes the waiting entries and relatches the current locker unless its door has
opened. -/
def Obligations.AbortLoadEndsTheVisit : Prop :=
  ∀ s : State, s.running = true → s.svl.inProgress = none →
    (s.bkc.entries = [] → exec .abortLoad s = .next (s.answered 3 .wrongState []))
    ∧ (∀ e more, s.bkc.entries = e :: more → (s.locker e.locker).state = .loading →
      let l := s.locker e.locker
      (l.unlatchTimer ≠ none → exec .abortLoad s = .next ({ s.putLocker e.locker { l with
            state := .booked
            latch := .locked
            unlatchTimer := none
            ajarTimer := none
            ajar := false
            loadedCold := false } with
          bkc := { s.bkc with active := false, entries := [], remaining := 0 } }.answered 3 .ok []))
      ∧ (l.unlatchTimer = none → exec .abortLoad s = .next ({ s with
          bkc := { s.bkc with active := true, entries := [e], remaining := 1 } }.answered 3 .ok [])))

/-- R18, R150, R151: CANCEL, by the state of the locker that holds the ref. In BOOKED the waiting entry of the ref leaves
the chain, whatever locker it names; the current entry, the first, is not removed. -/
def Obligations.CancelByState : Prop :=
  ∀ (ref : OrderRef) (s : State), s.running = true → s.svl.inProgress = none →
    (s.holderOf ref = none → exec (.cancel ref) s = .next (s.answered 4 .notFound []))
    ∧ (∀ n, s.holderOf ref = some n →
      let l := s.locker n
      let entries := s.bkc.entries.take 1 ++ (s.bkc.entries.drop 1).filter fun e => e.ref != ref
      (l.state = .booked → exec (.cancel ref) s = .next ({ s.putLocker n { l with
            state := .free
            orderRef := none
            pickupCode := none
            profile := none
            loadedCold := false
            heaterOn := false
            duty := 0 } with
          bkc := { s.bkc with entries := entries, remaining := entries.length, active := !entries.isEmpty } }.answered
            4 .ok []))
      ∧ (l.state = .holding →
        exec (.cancel ref) s = .next ((s.endInLockout n .cancelled .cancelled).answered 4 .ok []))
      ∧ (l.state = .loading ∨ l.state = .opened → exec (.cancel ref) s = .next (s.answered 4 .busy []))
      ∧ (l.state = .lockout ∨ l.state = .clearing ∨ l.state = .filing →
        exec (.cancel ref) s = .next (s.answered 4 .wrongState [])))

/-- R49, R65, R155, R172, R175, R180, R181: the four commands that only report. The bank report of 23 bytes, the locker
report of 38 and the record that FETCH returns are written out byte by byte; numbers of two bytes stand most significant
byte first. QUERY-LOCKER and QUERY-ORDER keep the tray levels they read (the model's choice, log 7), the chain position
is that of the ref the locker holds (the model's choice, log 24), and the bits of the two flag bytes that their tables do
not name are 0 (the model's choice, log 29). -/
def Obligations.QueriesAndFetchOnlyReport : Prop :=
  ∀ (s : State) (trays : Lines), s.running = true → s.svl.inProgress = none →
    let q := s.sampleTrays trays
    let byte : Nat → Byte := fun x => BitVec.ofNat 8 x
    let word : Nat → List Byte := fun x => [BitVec.ofNat 8 (x / 256), BitVec.ofNat 8 x]
    let ref4 : OrderRef → List Byte := fun r =>
      [byte (r.toNat / 16777216), byte (r.toNat / 65536), byte (r.toNat / 256), byte r.toNat]
    let code3 : Code → List Byte := fun c => [byte (c.toNat / 65536), byte (c.toNat / 256), byte c.toNat]
    let outcome : BookingEnd → Nat := fun e =>
      ([.collected, .expired, .cold, .sensor, .tamper, .cancelled, .voided] : List BookingEnd).idxOf e + 1
    let cause : Option Cause → Nat := fun c => match c with
      | none => 0
      | some c => ([.expired, .cold, .sensor, .tamper, .cancelled, .foreign, .restart] : List Cause).idxOf c + 1
    let seconds : Timer → Nat := fun t => match t with
      | none => 255
      | some v => v / 1000
    ((∀ n, q.locker n = { s.locker n with trayPresent := trays.getLsbD n.val }) ∧ q = { s with lockers := q.lockers })
    ∧ (exec .queryBank s = .next (s.answered 7 .ok s.bankReport) ∧ s.bankReport.length = 23)
    ∧ (s.bankReport =
      [byte (([.starting, .listening, .joined, .isolated, .halted] : List Station).idxOf s.pvt.station),
        byte (match s.cfl.fault with
          | none => 0
          | some r => ([.noMemory, .check, .station, .heater, .overtemp, .margin, .shed, .staff, .globalRange,
              .localRange] : List FaultReason).idxOf r + 1),
        byte (if s.fsc.shed = .clear then 0 else 1)]
      ++ word s.fsc.allowance
      ++ [byte s.hdf.elements, byte s.pvt.peers.length, byte s.bkc.remaining, byte s.bkc.skipped,
        byte s.ocl.records.length, byte s.filing.length]
      ++ word s.hbp.framesReceived ++ word s.hbp.framesDiscarded ++ word s.pvt.outOfRange ++ word s.pvt.clashes
      ++ word s.hbp.erroredAttempts ++ word s.hbp.failedWindows)
    ∧ (∀ (n : LockerNo) (code : Option Code),
      let l := q.locker n
      let p := q.profileOf l
      let k := activeSegment p l.holdElapsed
      let booked := l.state = .booked ∨ l.state = .loading
      let holds := l.state = .holding ∨ l.state = .opened
      let reported := holds
        ∨ (l.state = .lockout ∨ l.state = .clearing ∨ l.state = .filing) ∧ l.orderRef.isSome = true
      q.lockerReport n code =
        [byte n.val,
          byte (([.out, .free, .booked, .loading, .holding, .opened, .lockout, .clearing, .filing]
            : List LockerState).idxOf l.state),
          byte (l.hidden.toNat + 2 * l.doorShut.toNat + 4 * l.trayPresent.toNat
            + (if l.latch = .released then 8 else 0) + 16 * l.loadedCold.toNat + 32 * l.recordPending.toNat
            + 64 * l.ajar.toNat + 128 * l.tamper.toNat),
          byte (l.heaterOn.toNat + 2 * l.call.toNat + (if s.pnl.claim = some n then 4 else 0)
            + (if q.ready l = true then 8 else 0) + (if reported ∧ l.overheat = true then 16 else 0)
            + (if reported then 32 else 0)),
          byte (([.off, .steady, .slow, .fast] : List Indicator).idxOf l.indicator),
          byte (cause l.lockoutCause), byte (cause (l.deferredCause.map ScanCause.cause))]
        ++ ref4 (l.orderRef.getD 0) ++ code3 (code.getD 16777215)
        ++ [(match l.profile with
            | none => 255
            | some p => byte p.val),
          byte (match s.bkc.entries.findIdx? fun e => some e.ref == l.orderRef with
            | none => 0
            | some i => i + 1),
          byte (seconds l.unlatchTimer), byte (seconds l.ajarTimer),
          (match l.reading with
            | .fault => 255
            | .valid v => byte v.val),
          byte (([.none, .class1, .class2, .class3] : List HeatClass).idxOf l.cls), byte l.request, byte l.duty]
        ++ (if booked then [byte (setpointOf p 0), 0, 0, 0, 0]
          else if holds then [byte (setpointOf p k), byte (k.val + 1), byte (floorOf p)] ++ word (60 * p.holdLimit)
          else [0, 0, 0, 0, 0])
        ++ (if reported then word l.holdElapsed
            ++ [match l.minReading with
              | none => 255
              | some m => byte m.val]
            ++ word l.belowRun ++ word l.belowTotal ++ word l.belowLongest ++ word l.faultRun
          else [0, 0, 255, 0, 0, 0, 0, 0, 0, 0, 0]))
    ∧ (∀ (b : Byte) (n : LockerNo), b.toNat = n.val →
      exec (.queryLocker b trays) s = .next (q.answered 6 .ok (q.lockerReport n (s.locker n).pickupCode)))
    ∧ (∀ b : Byte, 16 ≤ b.toNat → exec (.queryLocker b trays) s = .next (q.answered 6 .outOfRange []))
    ∧ (∀ n code, (q.lockerReport n code).length = 38)
    ∧ (∀ ref n, s.holderOf ref = some n →
      exec (.queryOrder ref trays) s = .next (q.answered 5 .ok (q.lockerReport n none)))
    ∧ (∀ ref, s.holderOf ref = none → (∃ r ∈ s.ocl.records, r.ref = ref) →
      exec (.queryOrder ref trays) s = .next (q.answered 5 .filed []))
    ∧ (∀ ref, s.holderOf ref = none → (∀ r ∈ s.ocl.records, r.ref ≠ ref) →
      exec (.queryOrder ref trays) s = .next (q.answered 5 .notFound []))
    ∧ (s.ocl.records = [] → exec .fetch s = .next (s.answered 8 .empty []))
    ∧ (∀ r rest, s.ocl.records = r :: rest →
      let flags := r.flags.loadedCold.toNat + 2 * r.flags.collectedLate.toNat + 4 * r.flags.collectedCold.toNat
        + 8 * r.flags.overheated.toNat
      (r.stats = none → exec .fetch s = .next (s.answered 8 .ok (ref4 r.ref
        ++ [BitVec.ofNat 8 r.locker.val, BitVec.ofNat 8 (outcome r.outcome), BitVec.ofNat 8 flags,
          0, 0, 255, 0, 0, 0, 0])))
      ∧ (∀ h, r.stats = some h → exec .fetch s = .next (s.answered 8 .ok (ref4 r.ref
        ++ [BitVec.ofNat 8 r.locker.val, BitVec.ofNat 8 (outcome r.outcome), BitVec.ofNat 8 (flags + 128),
          BitVec.ofNat 8 (h.holdSeconds / 256), BitVec.ofNat 8 h.holdSeconds,
          (match h.minReading with | some m => BitVec.ofNat 8 m.val | none => 255),
          BitVec.ofNat 8 (h.belowTotal / 256), BitVec.ofNat 8 h.belowTotal,
          BitVec.ofNat 8 (h.belowLongest / 256), BitVec.ofNat 8 h.belowLongest]))))

/-- R31, R171, R173, R174: RELEASE removes the record of its ref, and the head of the pending-filing queue takes the place
at the tail: its locker gives up the booking, and one in FILING is free. -/
def Obligations.ReleaseRemovesAndFiles : Prop :=
  ∀ (ref : OrderRef) (s : State), s.running = true → s.svl.inProgress = none →
    ((∀ r ∈ s.ocl.records, r.ref ≠ ref) → exec (.release ref) s = .next (s.answered 9 .notFound []))
    ∧ (∀ before r after, s.ocl.records = before ++ r :: after → r.ref = ref → (∀ x ∈ before, x.ref ≠ ref) →
      (s.filing = [] → exec (.release ref) s = .next
        ({ s with ocl := ⟨before ++ after, !(before ++ after).isEmpty⟩ }.answered 9 .ok []))
      ∧ (∀ e rest, s.filing = e :: rest →
        let l := { s.locker e.locker with
          recordPending := false, orderRef := none, pickupCode := none, profile := none, loadedCold := false }
        let l1 := if l.state = .filing then { l with state := .free, lockoutCause := none } else l
        exec (.release ref) s = .next ({ s.putLocker e.locker l1 with
          filing := rest
          ocl := ⟨before ++ after ++ [e.record], true⟩ }.answered 9 .ok [])))

/-- R26, R32, R33: HIDE, SHOW and STAFF-OPEN, in the order of their checks. A SHOW, refused or not, keeps the levels of the
sixteen tray inputs that it carries (the model's choice, log 7). -/
def Obligations.HideShowAndStaffOpen : Prop :=
  ∀ (b : Byte) (trays : Lines) (s : State), s.running = true → s.svl.inProgress = none →
    let q := s.sampleTrays trays
    (16 ≤ b.toNat → exec (.hideLocker b) s = .next (s.answered 10 .outOfRange [])
      ∧ exec (.showLocker b trays) s = .next (q.answered 11 .outOfRange [])
      ∧ exec (.staffOpen b) s = .next (s.answered 12 .outOfRange []))
    ∧ (b.toNat < 16 → s.cfg.hideLock = true → exec (.hideLocker b) s = .next (s.answered 10 .hideLocked [])
      ∧ exec (.showLocker b trays) s = .next (q.answered 11 .hideLocked []))
    ∧ (∀ n : LockerNo, b.toNat = n.val →
      let l := s.locker n
      (s.cfg.hideLock = false →
        (l.state = .out → l.hidden = true → exec (.hideLocker b) s = .next (s.answered 10 .ok []))
        ∧ ((l.state ≠ .free ∧ ¬ (l.state = .out ∧ l.hidden = true)) ∨ (l.state = .free ∧ l.doorShut = false) →
          exec (.hideLocker b) s = .next (s.answered 10 .busy []))
        ∧ (l.state = .free → l.doorShut = true → exec (.hideLocker b) s =
          .next ((s.putLocker n { l with state := .out, hidden := true }).answered 10 .ok []))
        ∧ (l.state ≠ .out ∨ l.hidden = false → exec (.showLocker b trays) s = .next (q.answered 11 .wrongState []))
        ∧ (l.state = .out → l.hidden = true → l.doorShut = false →
          exec (.showLocker b trays) s = .next (q.answered 11 .busy []))
        ∧ (l.state = .out → l.hidden = true → l.doorShut = true → trays.getLsbD n.val = true →
          exec (.showLocker b trays) s = .next (q.answered 11 .trayPresent []))
        ∧ (l.state = .out → l.hidden = true → l.doorShut = true → trays.getLsbD n.val = false →
          exec (.showLocker b trays) s =
            .next ((q.putLocker n { q.locker n with state := .free, hidden := false }).answered 11 .ok [])))
      ∧ (l.state ≠ .lockout → exec (.staffOpen b) s = .next (s.answered 12 .wrongState []))
      ∧ (l.state = .lockout → exec (.staffOpen b) s = .next ((s.putLocker n { l with
          state := .clearing
          latch := .released
          tamper := false
          unlatchTimer := if l.doorShut then some 0 else none
          ajarTimer := if l.doorShut then none else some 0 }).answered 12 .opened [b])))

/-- R176, R177, R178: faulty frames, frames that meet a command in progress, the end of a response, and the gap timer. A
discarded command keeps the tray levels that it carries (the model's choice, log 7), and a rate that waits for the end of
the response drops a frame part-way through receipt even where it is the rate in force (the model's choice, log 16). -/
def Obligations.ServiceFramesAndTimers : Prop :=
  ∀ s : State,
    (s.svl.inProgress = none →
      exec (.badFrame .noCode) s = .next (s.answered 0 .badFrame [])
      ∧ ∀ c, exec (.badFrame (.abandoned c)) s = .next (s.answered c .badFrame [])
        ∧ exec (.badFrame (.badSum c)) s = .next (s.answered c .badFrame [])
        ∧ exec (.badFrame (.badLength c)) s = .next (s.answered c .badFrame [])
        ∧ exec (.badFrame (.unknownCode c)) s = .next (s.answered c .unknown []))
    ∧ (s.svl.inProgress ≠ none →
      exec .frameDiscarded s = .next s.frameDropped
      ∧ (∀ f, exec (.badFrame f) s = .next s.frameDropped)
      ∧ (∀ c trays, exec (serviceRow trays c) s = .next (s.atArrival trays c).frameDropped)
      ∧ (s.svl.pendingRate = none → exec .responseSent s = .next { s with svl := { s.svl with inProgress := none } })
      ∧ (∀ r, s.svl.pendingRate = some r → exec .responseSent s = .next { s with svl := { s.svl with
          inProgress := none
          rate := r
          pendingRate := none
          receiver := .hunting
          expected := 0
          gapTimer := none
          kept := [] } }))
    ∧ (∀ v, s.svl.gapTimer = some v → 10 ≤ v → s.overtaken.serviceGap = false →
      (s.svl.receiver = .length → exec .gapTimerExpiry s = exec (.badFrame .noCode) s)
      ∧ (s.svl.receiver = .body → s.svl.kept.length < 2 → exec .gapTimerExpiry s = exec (.badFrame .noCode) s)
      ∧ (∀ len c rest, s.svl.receiver = .body → s.svl.kept = len :: c :: rest →
        exec .gapTimerExpiry s = exec (.badFrame (.abandoned c)) s))

/-- R177: the service receiver takes one byte; the frame that a byte completes or abandons is the command, or the faulty
frame, that the bytes kept spell. The tray inputs are taken as they stand at the byte (the model's choice, log 7), a code
byte with a framing error counts as not received (the model's choice, log 25), and a byte overtakes an expiry of the gap
timer that is due at the same instant (the model's choice, log 22). -/
def Obligations.ServiceReceiverTakesBytes : Prop :=
  ∀ (b : Byte) (trays : Lines) (s : State),
    let q := s.sampleTrays trays
    let overtaken := { s.overtaken with
      serviceGap := s.overtaken.serviceGap || s.svl.gapTimer.any fun v => decide (10 ≤ v) }
    (s.svl.receiver = .hunting → b = 165 → exec (.serviceByteReceived b false trays) s =
      .next { q with svl := { s.svl with receiver := .length, gapTimer := some 0, kept := [] } })
    ∧ (s.svl.receiver = .hunting → b ≠ 165 → exec (.serviceByteReceived b false trays) s = .next q)
    ∧ (s.svl.receiver = .hunting → exec (.serviceByteReceived b true trays) s = .next q)
    ∧ (s.svl.receiver = .length → 1 ≤ b.toNat → b.toNat ≤ 39 → exec (.serviceByteReceived b false trays) s =
      .next { q with
        svl := { s.svl with receiver := .body, expected := b.toNat + 1, gapTimer := some 0, kept := [b] }
        overtaken := overtaken })
    ∧ (s.svl.receiver = .length → b.toNat = 0 ∨ 40 ≤ b.toNat →
      exec (.serviceByteReceived b false trays) s = exec (.badFrame .noCode) q)
    ∧ (s.svl.receiver = .length → exec (.serviceByteReceived b true trays) s = exec (.badFrame .noCode) q)
    ∧ (s.svl.receiver = .body → 2 ≤ s.svl.expected → exec (.serviceByteReceived b false trays) s =
      .next { q with
        svl := { s.svl with expected := s.svl.expected - 1, gapTimer := some 0, kept := s.svl.kept ++ [b] }
        overtaken := overtaken })
    ∧ (s.svl.receiver = .body → s.svl.expected = 1 →
      (∀ c, judgeService (s.svl.kept ++ [b]) = .ok c →
        exec (.serviceByteReceived b false trays) s = exec (serviceRow trays c) q)
      ∧ (∀ f, judgeService (s.svl.kept ++ [b]) = .error f →
        exec (.serviceByteReceived b false trays) s = exec (.badFrame f) q))
    ∧ (s.svl.receiver = .body → s.svl.kept.length < 2 →
      exec (.serviceByteReceived b true trays) s = exec (.badFrame .noCode) q)
    ∧ (∀ len c rest, s.svl.receiver = .body → s.svl.kept = len :: c :: rest →
      exec (.serviceByteReceived b true trays) s = exec (.badFrame (.abandoned c)) q)

/-- R175, R177, R157, R158: the frame of every service command and of every panel message is judged to be that command or
message, with every operand at every value. A frame that fails is judged by the first check it fails: the sum of its bytes,
its code or type, its length. The frames are written out, those of the responses too: SYNC, length, code or type echoed,
status with the discarded flag in bit 7 (a panel response: its code), fields most significant byte first, check byte. -/
def Obligations.FramesAreJudgedAsSent : Prop :=
  let byte : Nat → Byte := fun x => BitVec.ofNat 8 x
  let framed : List Byte → List Byte → Prop := fun body frame =>
    (∃ check, frame = [165, byte body.length] ++ body ++ [check]) ∧ (frame.map BitVec.toNat).sum % 256 = 0
  (∀ ref : OrderRef, split4 ref =
    [byte (ref.toNat / 16777216), byte (ref.toNat / 65536), byte (ref.toNat / 256), byte ref.toNat])
  ∧ (∀ code : Code, split3 code = [byte (code.toNat / 65536), byte (code.toNat / 256), byte code.toNat])
  ∧ (∀ c : ServiceCmd, framed (match c with
      | .book ref code profile preferred => 1 :: split4 ref ++ split3 code ++ [profile] ++ preferred.toList
      | .load force refs => [2, byte refs.length, if force then 1 else 0] ++ refs.flatMap split4
      | .abortLoad => [3]
      | .cancel ref => 4 :: split4 ref
      | .queryOrder ref => 5 :: split4 ref
      | .queryLocker l => [6, l]
      | .queryBank => [7]
      | .fetch => [8]
      | .release ref => 9 :: split4 ref
      | .hideLocker l => [10, l]
      | .showLocker l => [11, l]
      | .staffOpen l => [12, l]) (165 :: c.frame))
  ∧ (∀ m : PanelMsg, framed (match m with
      | .present code => 1 :: split3 code
      | .confirm l => [2, l]
      | .abandon => [3]
      | .presentStaff code l => 4 :: split3 code ++ [l]) (165 :: m.frame))
  ∧ (∀ r : ServiceResponse, framed ([r.command, byte (([.ok, .badFrame, .unknown, .configFault, .outOfRange,
      .profileInvalid, .dupOrder, .dupCode, .full, .notFound, .wrongState, .busy, .notReady, .hideLocked, .trayPresent,
      .filed, .empty, .opened] : List RespCode).idxOf r.code + if r.discarded then 128 else 0)] ++ r.fields) r.bytes)
  ∧ (∀ r : PanelResponse, framed ([r.type, byte (([.ok, .badMessage, .unknown, .configFault, .offer, .notReady, .busy,
      .lockedOut, .noMatch, .opened, .lapsed, .wrongState, .outOfRange, .throttled] : List PanelCode).idxOf r.code)]
      ++ r.fields) r.bytes)
  ∧ (∀ c : ServiceCmd, c.wellFormed = true → judgeService c.frame = .ok c)
  ∧ (∀ m : PanelMsg, judgePanel m.frame = .ok m)
  ∧ ∀ (c check : Byte) (fields : List Byte), fields.length ≤ 38 →
    let kept := BitVec.ofNat 8 (fields.length + 1) :: c :: fields ++ [check]
    let good := (165 + (kept.map BitVec.toNat).sum) % 256 = 0
    let fits := match c.toNat with
      | 1 => fields.length = 8 ∨ fields.length = 9
      | 2 => ∃ count force rest, fields = count :: force :: rest ∧ rest.length = 4 * count.toNat
      | 3 | 7 | 8 => fields.length = 0
      | 4 | 5 | 9 => fields.length = 4
      | _ => fields.length = 1
    let fitsPanel := fields.length = if c = 1 then 3 else if c = 2 then 1 else if c = 3 then 0 else 4
    (¬ good → judgeService kept = .error (.badSum c) ∧ judgePanel kept = .error (.badSum c))
    ∧ (good → c = 0 ∨ 12 < c.toNat → judgeService kept = .error (.unknownCode c))
    ∧ (good → 1 ≤ c.toNat → c.toNat ≤ 12 → ¬ fits → judgeService kept = .error (.badLength c))
    ∧ (good → 1 ≤ c.toNat → c.toNat ≤ 12 → fits → ∃ cmd, judgeService kept = .ok cmd ∧ cmd.code = c)
    ∧ (good → c = 0 ∨ 4 < c.toNat → judgePanel kept = .error (.unknownType c))
    ∧ (good → 1 ≤ c.toNat → c.toNat ≤ 4 → ¬ fitsPanel → judgePanel kept = .error (.badLength c))
    ∧ (good → 1 ≤ c.toNat → c.toNat ≤ 4 → fitsPanel → ∃ m, judgePanel kept = .ok m ∧ m.type = c)

/-- R157, R179: in STARTING and in HALTED commands and messages are answered CONFIG_FAULT, but for QUERY-BANK in
HALTED. A command so answered keeps the tray levels that it carries (the model's choice, log 7). -/
def Obligations.ConfigFaultWhileNotRunning : Prop :=
  ∀ s : State, s.running = false →
    (s.svl.inProgress = none →
      (∀ trays c, s.pvt.station = .starting ∨ c ≠ .queryBank →
        exec (serviceRow trays c) s = .next ((s.atArrival trays c).answered c.code .configFault []))
      ∧ (s.pvt.station = .halted → exec .queryBank s = .next (s.answered 7 .ok s.bankReport)))
    ∧ (s.pnl.sending = none →
      (∀ m, exec (panelRow m) s = .next (s.panelAnswered m.type .configFault []))
      ∧ exec (.panelBadMessage .noType) s = .next (s.panelAnswered 0 .configFault [])
      ∧ ∀ t, exec (.panelBadMessage (.abandoned t)) s = .next (s.panelAnswered t .configFault [])
        ∧ exec (.panelBadMessage (.badSum t)) s = .next (s.panelAnswered t .configFault [])
        ∧ exec (.panelBadMessage (.badLength t)) s = .next (s.panelAnswered t .configFault [])
        ∧ exec (.panelBadMessage (.unknownType t)) s = .next (s.panelAnswered t .configFault []))

/-! ### Laws that every step keeps -/

/-- The laws hold of the state after reset. -/
def Obligations.LawsHoldAfterReset : Prop :=
  State.reset.StationLaw ∧ State.reset.LatchLaw ∧ State.reset.ClaimLaw ∧ State.reset.ChainLaw
    ∧ State.reset.OutcomeLaw ∧ State.reset.BookingLaw ∧ State.reset.HeatLaw ∧ State.reset.PlanLaw
    ∧ State.reset.PeerLaw ∧ State.reset.CountLaw ∧ State.reset.ThrottleLaw
    ∧ State.reset.BusLaw ∧ State.reset.ShedLaw ∧ State.reset.CauseLaw

/-- R2, R115, R184, R185: a part that does not run stands at its reset values, and one that runs is configured. R4, R5,
R9, R10, R12: latch, indicator, timers and flags of every locker agree with its state. R5 and the table of 1.2: the pattern
of every locker, what a change of pattern does to the lamp, and when the lamp is lit. -/
def Obligations.EveryStepKeepsStationAndLatchLaws : Prop :=
  (∀ s t : State, s.StationLaw → step s = .next t → t.StationLaw ∧ (s.LatchLaw → t.LatchLaw))
  ∧ ∀ l : Locker,
    (l.pattern = if l.ajar then .fast else if l.tamper then .slow else match l.state with
      | .out | .free | .booked | .filing => .off
      | .holding => .steady
      | .lockout => .slow
      | .loading | .opened | .clearing => .fast)
    ∧ (l.indicator = l.pattern → l.refresh = l)
    ∧ (l.indicator ≠ l.pattern → l.refresh = { l with indicator := l.pattern, lampPhase := 0 })
    ∧ (∀ (s : State) (n : LockerNo), s.putLocker n l = s.setLocker n l.refresh
      ∧ s.setLocker n l = { s with lockers := (s.setLocker n l).lockers } ∧ (s.setLocker n l).locker n = l
      ∧ ∀ m, m ≠ n → (s.setLocker n l).locker m = s.locker m)
    ∧ (l.indicator = .off → l.lampLit = false)
    ∧ (l.indicator = .steady → l.lampLit = true)
    ∧ (l.indicator = .slow → (l.lampLit = true ↔ l.lampPhase < 500))
    ∧ (l.indicator = .fast → (l.lampLit = true ↔ l.lampPhase % 250 < 125))

/-- R161: at most one claim exists, and while it exists it names a locker in HOLDING and its timer runs. -/
def Obligations.EveryStepKeepsClaimLaw : Prop :=
  ∀ s t : State, s.StationLaw → s.ClaimLaw → step s = .next t → t.ClaimLaw

/-- R138: the load chain holds at most 8 entries, the skipped count is at most 8, and at most one locker is in LOADING, only
while the chain is active. -/
def Obligations.EveryStepKeepsChainLaw : Prop :=
  ∀ s t : State, s.StationLaw → s.ChainLaw → step s = .next t → t.ChainLaw

/-- R174, R30: OCL holds at most 8 records, ATTN is asserted exactly while it holds one, and the pending-filing queue is
empty unless OCL is full. R1, R29 to R31, R140: no order ref appears twice across the lockers and OCL, and no pickup code
twice. R1: the lockout cause and the deferred cause are present only in the states that carry them. -/
def Obligations.EveryStepKeepsOutcomeAndBookingLaws : Prop :=
  (∀ s t : State, s.StationLaw → s.OutcomeLaw → step s = .next t → t.OutcomeLaw ∧ (s.BookingLaw → t.BookingLaw))
  ∧ ∀ s t : State, s.StationLaw → s.CauseLaw → step s = .next t → t.CauseLaw

/-- R79: a heater is on only for a locker in BOOKED or HOLDING whose door is shut and whose reading is valid and below
the overtemperature limit. -/
def Obligations.EveryStepKeepsHeatLaw : Prop :=
  ∀ s t : State, s.StationLaw → s.HeatLaw → step s = .next t → t.HeatLaw

/-- R76, R79: at most N heaters are on, N is at most 16, and none is on in STARTING, LISTENING and HALTED. -/
def Obligations.EveryStepKeepsPlanLaw : Prop :=
  (∀ s t : State, s.StationLaw → s.PlanLaw → step s = .next t → t.PlanLaw)
  ∧ ∀ s : State, s.PlanLaw → s.heatersOn ≤ s.hdf.elements

/-- R51, R90, R104, R108, R109, R166, R167: the peer table and the saturating counts keep their ranges, and the throttle
is on exactly while the miss count is 5. R90, R97, R98: the fields of the heat bus port agree with one another; that an
arbitrating sender is sending from the edge of cell 7 on is the model's choice (log 27). R119, R130 to R133: the release
hold runs exactly in RELEASING. -/
def Obligations.EveryStepKeepsPeersAndCounts : Prop :=
  (∀ s t : State, s.StationLaw → s.PeerLaw → s.CountLaw → s.ThrottleLaw → step s = .next t →
    t.PeerLaw ∧ t.CountLaw ∧ t.ThrottleLaw)
  ∧ (∀ s t : State, s.StationLaw → s.BusLaw → step s = .next t → t.BusLaw)
  ∧ ∀ s t : State, s.StationLaw → s.ShedLaw → step s = .next t → t.ShedLaw
end

