-- ==== Sys2Proof/Laws/State.lean ====
section
/-! SUPPORT. One lemma for each field under each update of the state record, and for the records of the lockers under
every update, so that no proof unfolds a record update. -/

namespace Sys2Proof.Machine

section withFiling
variable (s : State) (x : List FilingEntry)
@[simp] theorem State.withFiling_lockers : (s.withFiling x).lockers = s.lockers := rfl
@[simp] theorem State.withFiling_filing : (s.withFiling x).filing = x := rfl
@[simp] theorem State.withFiling_slots : (s.withFiling x).slots = s.slots := rfl
@[simp] theorem State.withFiling_hdf : (s.withFiling x).hdf = s.hdf := rfl
@[simp] theorem State.withFiling_hbp : (s.withFiling x).hbp = s.hbp := rfl
@[simp] theorem State.withFiling_pvt : (s.withFiling x).pvt = s.pvt := rfl
@[simp] theorem State.withFiling_fsc : (s.withFiling x).fsc = s.fsc := rfl
@[simp] theorem State.withFiling_bkc : (s.withFiling x).bkc = s.bkc := rfl
@[simp] theorem State.withFiling_pnl : (s.withFiling x).pnl = s.pnl := rfl
@[simp] theorem State.withFiling_ocl : (s.withFiling x).ocl = s.ocl := rfl
@[simp] theorem State.withFiling_svl : (s.withFiling x).svl = s.svl := rfl
@[simp] theorem State.withFiling_cfl : (s.withFiling x).cfl = s.cfl := rfl
@[simp] theorem State.withFiling_overtaken : (s.withFiling x).overtaken = s.overtaken := rfl
@[simp] theorem State.withFiling_pending : (s.withFiling x).pending = s.pending := rfl
@[simp] theorem State.withFiling_locker (n : LockerNo) : (s.withFiling x).locker n = s.locker n := rfl
@[simp] theorem State.withFiling_cfg : (s.withFiling x).cfg = s.cfg := rfl
@[simp] theorem State.withFiling_running : (s.withFiling x).running = s.running := rfl
end withFiling

section withSlots
variable (s : State) (x : Vector ProfileSlot 8)
@[simp] theorem State.withSlots_lockers : (s.withSlots x).lockers = s.lockers := rfl
@[simp] theorem State.withSlots_filing : (s.withSlots x).filing = s.filing := rfl
@[simp] theorem State.withSlots_slots : (s.withSlots x).slots = x := rfl
@[simp] theorem State.withSlots_hdf : (s.withSlots x).hdf = s.hdf := rfl
@[simp] theorem State.withSlots_hbp : (s.withSlots x).hbp = s.hbp := rfl
@[simp] theorem State.withSlots_pvt : (s.withSlots x).pvt = s.pvt := rfl
@[simp] theorem State.withSlots_fsc : (s.withSlots x).fsc = s.fsc := rfl
@[simp] theorem State.withSlots_bkc : (s.withSlots x).bkc = s.bkc := rfl
@[simp] theorem State.withSlots_pnl : (s.withSlots x).pnl = s.pnl := rfl
@[simp] theorem State.withSlots_ocl : (s.withSlots x).ocl = s.ocl := rfl
@[simp] theorem State.withSlots_svl : (s.withSlots x).svl = s.svl := rfl
@[simp] theorem State.withSlots_cfl : (s.withSlots x).cfl = s.cfl := rfl
@[simp] theorem State.withSlots_overtaken : (s.withSlots x).overtaken = s.overtaken := rfl
@[simp] theorem State.withSlots_pending : (s.withSlots x).pending = s.pending := rfl
@[simp] theorem State.withSlots_locker (n : LockerNo) : (s.withSlots x).locker n = s.locker n := rfl
@[simp] theorem State.withSlots_cfg : (s.withSlots x).cfg = s.cfg := rfl
@[simp] theorem State.withSlots_running : (s.withSlots x).running = s.running := rfl
end withSlots

section withHdf
variable (s : State) (x : Hdf)
@[simp] theorem State.withHdf_lockers : (s.withHdf x).lockers = s.lockers := rfl
@[simp] theorem State.withHdf_filing : (s.withHdf x).filing = s.filing := rfl
@[simp] theorem State.withHdf_slots : (s.withHdf x).slots = s.slots := rfl
@[simp] theorem State.withHdf_hdf : (s.withHdf x).hdf = x := rfl
@[simp] theorem State.withHdf_hbp : (s.withHdf x).hbp = s.hbp := rfl
@[simp] theorem State.withHdf_pvt : (s.withHdf x).pvt = s.pvt := rfl
@[simp] theorem State.withHdf_fsc : (s.withHdf x).fsc = s.fsc := rfl
@[simp] theorem State.withHdf_bkc : (s.withHdf x).bkc = s.bkc := rfl
@[simp] theorem State.withHdf_pnl : (s.withHdf x).pnl = s.pnl := rfl
@[simp] theorem State.withHdf_ocl : (s.withHdf x).ocl = s.ocl := rfl
@[simp] theorem State.withHdf_svl : (s.withHdf x).svl = s.svl := rfl
@[simp] theorem State.withHdf_cfl : (s.withHdf x).cfl = s.cfl := rfl
@[simp] theorem State.withHdf_overtaken : (s.withHdf x).overtaken = s.overtaken := rfl
@[simp] theorem State.withHdf_pending : (s.withHdf x).pending = s.pending := rfl
@[simp] theorem State.withHdf_locker (n : LockerNo) : (s.withHdf x).locker n = s.locker n := rfl
@[simp] theorem State.withHdf_cfg : (s.withHdf x).cfg = s.cfg := rfl
@[simp] theorem State.withHdf_running : (s.withHdf x).running = s.running := rfl
end withHdf

section withHbp
variable (s : State) (x : Hbp)
@[simp] theorem State.withHbp_lockers : (s.withHbp x).lockers = s.lockers := rfl
@[simp] theorem State.withHbp_filing : (s.withHbp x).filing = s.filing := rfl
@[simp] theorem State.withHbp_slots : (s.withHbp x).slots = s.slots := rfl
@[simp] theorem State.withHbp_hdf : (s.withHbp x).hdf = s.hdf := rfl
@[simp] theorem State.withHbp_hbp : (s.withHbp x).hbp = x := rfl
@[simp] theorem State.withHbp_pvt : (s.withHbp x).pvt = s.pvt := rfl
@[simp] theorem State.withHbp_fsc : (s.withHbp x).fsc = s.fsc := rfl
@[simp] theorem State.withHbp_bkc : (s.withHbp x).bkc = s.bkc := rfl
@[simp] theorem State.withHbp_pnl : (s.withHbp x).pnl = s.pnl := rfl
@[simp] theorem State.withHbp_ocl : (s.withHbp x).ocl = s.ocl := rfl
@[simp] theorem State.withHbp_svl : (s.withHbp x).svl = s.svl := rfl
@[simp] theorem State.withHbp_cfl : (s.withHbp x).cfl = s.cfl := rfl
@[simp] theorem State.withHbp_overtaken : (s.withHbp x).overtaken = s.overtaken := rfl
@[simp] theorem State.withHbp_pending : (s.withHbp x).pending = s.pending := rfl
@[simp] theorem State.withHbp_locker (n : LockerNo) : (s.withHbp x).locker n = s.locker n := rfl
@[simp] theorem State.withHbp_cfg : (s.withHbp x).cfg = s.cfg := rfl
@[simp] theorem State.withHbp_running : (s.withHbp x).running = s.running := rfl
end withHbp

section withPvt
variable (s : State) (x : Pvt)
@[simp] theorem State.withPvt_lockers : (s.withPvt x).lockers = s.lockers := rfl
@[simp] theorem State.withPvt_filing : (s.withPvt x).filing = s.filing := rfl
@[simp] theorem State.withPvt_slots : (s.withPvt x).slots = s.slots := rfl
@[simp] theorem State.withPvt_hdf : (s.withPvt x).hdf = s.hdf := rfl
@[simp] theorem State.withPvt_hbp : (s.withPvt x).hbp = s.hbp := rfl
@[simp] theorem State.withPvt_pvt : (s.withPvt x).pvt = x := rfl
@[simp] theorem State.withPvt_fsc : (s.withPvt x).fsc = s.fsc := rfl
@[simp] theorem State.withPvt_bkc : (s.withPvt x).bkc = s.bkc := rfl
@[simp] theorem State.withPvt_pnl : (s.withPvt x).pnl = s.pnl := rfl
@[simp] theorem State.withPvt_ocl : (s.withPvt x).ocl = s.ocl := rfl
@[simp] theorem State.withPvt_svl : (s.withPvt x).svl = s.svl := rfl
@[simp] theorem State.withPvt_cfl : (s.withPvt x).cfl = s.cfl := rfl
@[simp] theorem State.withPvt_overtaken : (s.withPvt x).overtaken = s.overtaken := rfl
@[simp] theorem State.withPvt_pending : (s.withPvt x).pending = s.pending := rfl
@[simp] theorem State.withPvt_locker (n : LockerNo) : (s.withPvt x).locker n = s.locker n := rfl
@[simp] theorem State.withPvt_cfg : (s.withPvt x).cfg = s.cfg := rfl
end withPvt

section withFsc
variable (s : State) (x : Fsc)
@[simp] theorem State.withFsc_lockers : (s.withFsc x).lockers = s.lockers := rfl
@[simp] theorem State.withFsc_filing : (s.withFsc x).filing = s.filing := rfl
@[simp] theorem State.withFsc_slots : (s.withFsc x).slots = s.slots := rfl
@[simp] theorem State.withFsc_hdf : (s.withFsc x).hdf = s.hdf := rfl
@[simp] theorem State.withFsc_hbp : (s.withFsc x).hbp = s.hbp := rfl
@[simp] theorem State.withFsc_pvt : (s.withFsc x).pvt = s.pvt := rfl
@[simp] theorem State.withFsc_fsc : (s.withFsc x).fsc = x := rfl
@[simp] theorem State.withFsc_bkc : (s.withFsc x).bkc = s.bkc := rfl
@[simp] theorem State.withFsc_pnl : (s.withFsc x).pnl = s.pnl := rfl
@[simp] theorem State.withFsc_ocl : (s.withFsc x).ocl = s.ocl := rfl
@[simp] theorem State.withFsc_svl : (s.withFsc x).svl = s.svl := rfl
@[simp] theorem State.withFsc_cfl : (s.withFsc x).cfl = s.cfl := rfl
@[simp] theorem State.withFsc_overtaken : (s.withFsc x).overtaken = s.overtaken := rfl
@[simp] theorem State.withFsc_pending : (s.withFsc x).pending = s.pending := rfl
@[simp] theorem State.withFsc_locker (n : LockerNo) : (s.withFsc x).locker n = s.locker n := rfl
@[simp] theorem State.withFsc_cfg : (s.withFsc x).cfg = s.cfg := rfl
@[simp] theorem State.withFsc_running : (s.withFsc x).running = s.running := rfl
end withFsc

section withBkc
variable (s : State) (x : Bkc)
@[simp] theorem State.withBkc_lockers : (s.withBkc x).lockers = s.lockers := rfl
@[simp] theorem State.withBkc_filing : (s.withBkc x).filing = s.filing := rfl
@[simp] theorem State.withBkc_slots : (s.withBkc x).slots = s.slots := rfl
@[simp] theorem State.withBkc_hdf : (s.withBkc x).hdf = s.hdf := rfl
@[simp] theorem State.withBkc_hbp : (s.withBkc x).hbp = s.hbp := rfl
@[simp] theorem State.withBkc_pvt : (s.withBkc x).pvt = s.pvt := rfl
@[simp] theorem State.withBkc_fsc : (s.withBkc x).fsc = s.fsc := rfl
@[simp] theorem State.withBkc_bkc : (s.withBkc x).bkc = x := rfl
@[simp] theorem State.withBkc_pnl : (s.withBkc x).pnl = s.pnl := rfl
@[simp] theorem State.withBkc_ocl : (s.withBkc x).ocl = s.ocl := rfl
@[simp] theorem State.withBkc_svl : (s.withBkc x).svl = s.svl := rfl
@[simp] theorem State.withBkc_cfl : (s.withBkc x).cfl = s.cfl := rfl
@[simp] theorem State.withBkc_overtaken : (s.withBkc x).overtaken = s.overtaken := rfl
@[simp] theorem State.withBkc_pending : (s.withBkc x).pending = s.pending := rfl
@[simp] theorem State.withBkc_locker (n : LockerNo) : (s.withBkc x).locker n = s.locker n := rfl
@[simp] theorem State.withBkc_cfg : (s.withBkc x).cfg = s.cfg := rfl
@[simp] theorem State.withBkc_running : (s.withBkc x).running = s.running := rfl
end withBkc

section withPnl
variable (s : State) (x : Pnl)
@[simp] theorem State.withPnl_lockers : (s.withPnl x).lockers = s.lockers := rfl
@[simp] theorem State.withPnl_filing : (s.withPnl x).filing = s.filing := rfl
@[simp] theorem State.withPnl_slots : (s.withPnl x).slots = s.slots := rfl
@[simp] theorem State.withPnl_hdf : (s.withPnl x).hdf = s.hdf := rfl
@[simp] theorem State.withPnl_hbp : (s.withPnl x).hbp = s.hbp := rfl
@[simp] theorem State.withPnl_pvt : (s.withPnl x).pvt = s.pvt := rfl
@[simp] theorem State.withPnl_fsc : (s.withPnl x).fsc = s.fsc := rfl
@[simp] theorem State.withPnl_bkc : (s.withPnl x).bkc = s.bkc := rfl
@[simp] theorem State.withPnl_pnl : (s.withPnl x).pnl = x := rfl
@[simp] theorem State.withPnl_ocl : (s.withPnl x).ocl = s.ocl := rfl
@[simp] theorem State.withPnl_svl : (s.withPnl x).svl = s.svl := rfl
@[simp] theorem State.withPnl_cfl : (s.withPnl x).cfl = s.cfl := rfl
@[simp] theorem State.withPnl_overtaken : (s.withPnl x).overtaken = s.overtaken := rfl
@[simp] theorem State.withPnl_pending : (s.withPnl x).pending = s.pending := rfl
@[simp] theorem State.withPnl_locker (n : LockerNo) : (s.withPnl x).locker n = s.locker n := rfl
@[simp] theorem State.withPnl_cfg : (s.withPnl x).cfg = s.cfg := rfl
@[simp] theorem State.withPnl_running : (s.withPnl x).running = s.running := rfl
end withPnl

section withOcl
variable (s : State) (x : Ocl)
@[simp] theorem State.withOcl_lockers : (s.withOcl x).lockers = s.lockers := rfl
@[simp] theorem State.withOcl_filing : (s.withOcl x).filing = s.filing := rfl
@[simp] theorem State.withOcl_slots : (s.withOcl x).slots = s.slots := rfl
@[simp] theorem State.withOcl_hdf : (s.withOcl x).hdf = s.hdf := rfl
@[simp] theorem State.withOcl_hbp : (s.withOcl x).hbp = s.hbp := rfl
@[simp] theorem State.withOcl_pvt : (s.withOcl x).pvt = s.pvt := rfl
@[simp] theorem State.withOcl_fsc : (s.withOcl x).fsc = s.fsc := rfl
@[simp] theorem State.withOcl_bkc : (s.withOcl x).bkc = s.bkc := rfl
@[simp] theorem State.withOcl_pnl : (s.withOcl x).pnl = s.pnl := rfl
@[simp] theorem State.withOcl_ocl : (s.withOcl x).ocl = x := rfl
@[simp] theorem State.withOcl_svl : (s.withOcl x).svl = s.svl := rfl
@[simp] theorem State.withOcl_cfl : (s.withOcl x).cfl = s.cfl := rfl
@[simp] theorem State.withOcl_overtaken : (s.withOcl x).overtaken = s.overtaken := rfl
@[simp] theorem State.withOcl_pending : (s.withOcl x).pending = s.pending := rfl
@[simp] theorem State.withOcl_locker (n : LockerNo) : (s.withOcl x).locker n = s.locker n := rfl
@[simp] theorem State.withOcl_cfg : (s.withOcl x).cfg = s.cfg := rfl
@[simp] theorem State.withOcl_running : (s.withOcl x).running = s.running := rfl
end withOcl

section withSvl
variable (s : State) (x : Svl)
@[simp] theorem State.withSvl_lockers : (s.withSvl x).lockers = s.lockers := rfl
@[simp] theorem State.withSvl_filing : (s.withSvl x).filing = s.filing := rfl
@[simp] theorem State.withSvl_slots : (s.withSvl x).slots = s.slots := rfl
@[simp] theorem State.withSvl_hdf : (s.withSvl x).hdf = s.hdf := rfl
@[simp] theorem State.withSvl_hbp : (s.withSvl x).hbp = s.hbp := rfl
@[simp] theorem State.withSvl_pvt : (s.withSvl x).pvt = s.pvt := rfl
@[simp] theorem State.withSvl_fsc : (s.withSvl x).fsc = s.fsc := rfl
@[simp] theorem State.withSvl_bkc : (s.withSvl x).bkc = s.bkc := rfl
@[simp] theorem State.withSvl_pnl : (s.withSvl x).pnl = s.pnl := rfl
@[simp] theorem State.withSvl_ocl : (s.withSvl x).ocl = s.ocl := rfl
@[simp] theorem State.withSvl_svl : (s.withSvl x).svl = x := rfl
@[simp] theorem State.withSvl_cfl : (s.withSvl x).cfl = s.cfl := rfl
@[simp] theorem State.withSvl_overtaken : (s.withSvl x).overtaken = s.overtaken := rfl
@[simp] theorem State.withSvl_pending : (s.withSvl x).pending = s.pending := rfl
@[simp] theorem State.withSvl_locker (n : LockerNo) : (s.withSvl x).locker n = s.locker n := rfl
@[simp] theorem State.withSvl_cfg : (s.withSvl x).cfg = s.cfg := rfl
@[simp] theorem State.withSvl_running : (s.withSvl x).running = s.running := rfl
end withSvl

section withCfl
variable (s : State) (x : Cfl)
@[simp] theorem State.withCfl_lockers : (s.withCfl x).lockers = s.lockers := rfl
@[simp] theorem State.withCfl_filing : (s.withCfl x).filing = s.filing := rfl
@[simp] theorem State.withCfl_slots : (s.withCfl x).slots = s.slots := rfl
@[simp] theorem State.withCfl_hdf : (s.withCfl x).hdf = s.hdf := rfl
@[simp] theorem State.withCfl_hbp : (s.withCfl x).hbp = s.hbp := rfl
@[simp] theorem State.withCfl_pvt : (s.withCfl x).pvt = s.pvt := rfl
@[simp] theorem State.withCfl_fsc : (s.withCfl x).fsc = s.fsc := rfl
@[simp] theorem State.withCfl_bkc : (s.withCfl x).bkc = s.bkc := rfl
@[simp] theorem State.withCfl_pnl : (s.withCfl x).pnl = s.pnl := rfl
@[simp] theorem State.withCfl_ocl : (s.withCfl x).ocl = s.ocl := rfl
@[simp] theorem State.withCfl_svl : (s.withCfl x).svl = s.svl := rfl
@[simp] theorem State.withCfl_cfl : (s.withCfl x).cfl = x := rfl
@[simp] theorem State.withCfl_overtaken : (s.withCfl x).overtaken = s.overtaken := rfl
@[simp] theorem State.withCfl_pending : (s.withCfl x).pending = s.pending := rfl
@[simp] theorem State.withCfl_locker (n : LockerNo) : (s.withCfl x).locker n = s.locker n := rfl
@[simp] theorem State.withCfl_running : (s.withCfl x).running = s.running := rfl
end withCfl

section withOvertaken
variable (s : State) (x : Overtaken)
@[simp] theorem State.withOvertaken_lockers : (s.withOvertaken x).lockers = s.lockers := rfl
@[simp] theorem State.withOvertaken_filing : (s.withOvertaken x).filing = s.filing := rfl
@[simp] theorem State.withOvertaken_slots : (s.withOvertaken x).slots = s.slots := rfl
@[simp] theorem State.withOvertaken_hdf : (s.withOvertaken x).hdf = s.hdf := rfl
@[simp] theorem State.withOvertaken_hbp : (s.withOvertaken x).hbp = s.hbp := rfl
@[simp] theorem State.withOvertaken_pvt : (s.withOvertaken x).pvt = s.pvt := rfl
@[simp] theorem State.withOvertaken_fsc : (s.withOvertaken x).fsc = s.fsc := rfl
@[simp] theorem State.withOvertaken_bkc : (s.withOvertaken x).bkc = s.bkc := rfl
@[simp] theorem State.withOvertaken_pnl : (s.withOvertaken x).pnl = s.pnl := rfl
@[simp] theorem State.withOvertaken_ocl : (s.withOvertaken x).ocl = s.ocl := rfl
@[simp] theorem State.withOvertaken_svl : (s.withOvertaken x).svl = s.svl := rfl
@[simp] theorem State.withOvertaken_cfl : (s.withOvertaken x).cfl = s.cfl := rfl
@[simp] theorem State.withOvertaken_overtaken : (s.withOvertaken x).overtaken = x := rfl
@[simp] theorem State.withOvertaken_pending : (s.withOvertaken x).pending = s.pending := rfl
@[simp] theorem State.withOvertaken_locker (n : LockerNo) : (s.withOvertaken x).locker n = s.locker n := rfl
@[simp] theorem State.withOvertaken_cfg : (s.withOvertaken x).cfg = s.cfg := rfl
@[simp] theorem State.withOvertaken_running : (s.withOvertaken x).running = s.running := rfl
end withOvertaken

section withPending
variable (s : State) (x : List Instr)
@[simp] theorem State.withPending_lockers : (s.withPending x).lockers = s.lockers := rfl
@[simp] theorem State.withPending_filing : (s.withPending x).filing = s.filing := rfl
@[simp] theorem State.withPending_slots : (s.withPending x).slots = s.slots := rfl
@[simp] theorem State.withPending_hdf : (s.withPending x).hdf = s.hdf := rfl
@[simp] theorem State.withPending_hbp : (s.withPending x).hbp = s.hbp := rfl
@[simp] theorem State.withPending_pvt : (s.withPending x).pvt = s.pvt := rfl
@[simp] theorem State.withPending_fsc : (s.withPending x).fsc = s.fsc := rfl
@[simp] theorem State.withPending_bkc : (s.withPending x).bkc = s.bkc := rfl
@[simp] theorem State.withPending_pnl : (s.withPending x).pnl = s.pnl := rfl
@[simp] theorem State.withPending_ocl : (s.withPending x).ocl = s.ocl := rfl
@[simp] theorem State.withPending_svl : (s.withPending x).svl = s.svl := rfl
@[simp] theorem State.withPending_cfl : (s.withPending x).cfl = s.cfl := rfl
@[simp] theorem State.withPending_overtaken : (s.withPending x).overtaken = s.overtaken := rfl
@[simp] theorem State.withPending_pending : (s.withPending x).pending = x := rfl
@[simp] theorem State.withPending_locker (n : LockerNo) : (s.withPending x).locker n = s.locker n := rfl
@[simp] theorem State.withPending_cfg : (s.withPending x).cfg = s.cfg := rfl
@[simp] theorem State.withPending_running : (s.withPending x).running = s.running := rfl
end withPending

section setLocker
variable (s : State) (n : LockerNo) (l : Locker)
@[simp] theorem State.setLocker_filing : (s.setLocker n l).filing = s.filing := rfl
@[simp] theorem State.setLocker_slots : (s.setLocker n l).slots = s.slots := rfl
@[simp] theorem State.setLocker_hdf : (s.setLocker n l).hdf = s.hdf := rfl
@[simp] theorem State.setLocker_hbp : (s.setLocker n l).hbp = s.hbp := rfl
@[simp] theorem State.setLocker_pvt : (s.setLocker n l).pvt = s.pvt := rfl
@[simp] theorem State.setLocker_fsc : (s.setLocker n l).fsc = s.fsc := rfl
@[simp] theorem State.setLocker_bkc : (s.setLocker n l).bkc = s.bkc := rfl
@[simp] theorem State.setLocker_pnl : (s.setLocker n l).pnl = s.pnl := rfl
@[simp] theorem State.setLocker_ocl : (s.setLocker n l).ocl = s.ocl := rfl
@[simp] theorem State.setLocker_svl : (s.setLocker n l).svl = s.svl := rfl
@[simp] theorem State.setLocker_cfl : (s.setLocker n l).cfl = s.cfl := rfl
@[simp] theorem State.setLocker_overtaken : (s.setLocker n l).overtaken = s.overtaken := rfl
@[simp] theorem State.setLocker_pending : (s.setLocker n l).pending = s.pending := rfl
@[simp] theorem State.setLocker_cfg : (s.setLocker n l).cfg = s.cfg := rfl
@[simp] theorem State.setLocker_running : (s.setLocker n l).running = s.running := rfl
end setLocker

section putLocker
variable (s : State) (n : LockerNo) (l : Locker)
@[simp] theorem State.putLocker_filing : (s.putLocker n l).filing = s.filing := rfl
@[simp] theorem State.putLocker_slots : (s.putLocker n l).slots = s.slots := rfl
@[simp] theorem State.putLocker_hdf : (s.putLocker n l).hdf = s.hdf := rfl
@[simp] theorem State.putLocker_hbp : (s.putLocker n l).hbp = s.hbp := rfl
@[simp] theorem State.putLocker_pvt : (s.putLocker n l).pvt = s.pvt := rfl
@[simp] theorem State.putLocker_fsc : (s.putLocker n l).fsc = s.fsc := rfl
@[simp] theorem State.putLocker_bkc : (s.putLocker n l).bkc = s.bkc := rfl
@[simp] theorem State.putLocker_pnl : (s.putLocker n l).pnl = s.pnl := rfl
@[simp] theorem State.putLocker_ocl : (s.putLocker n l).ocl = s.ocl := rfl
@[simp] theorem State.putLocker_svl : (s.putLocker n l).svl = s.svl := rfl
@[simp] theorem State.putLocker_cfl : (s.putLocker n l).cfl = s.cfl := rfl
@[simp] theorem State.putLocker_overtaken : (s.putLocker n l).overtaken = s.overtaken := rfl
@[simp] theorem State.putLocker_pending : (s.putLocker n l).pending = s.pending := rfl
@[simp] theorem State.putLocker_cfg : (s.putLocker n l).cfg = s.cfg := rfl
@[simp] theorem State.putLocker_running : (s.putLocker n l).running = s.running := rfl
end putLocker

section eachLocker
variable (s : State) (f : LockerNo → Locker → Locker)
@[simp] theorem State.eachLocker_filing : (s.eachLocker f).filing = s.filing := rfl
@[simp] theorem State.eachLocker_slots : (s.eachLocker f).slots = s.slots := rfl
@[simp] theorem State.eachLocker_hdf : (s.eachLocker f).hdf = s.hdf := rfl
@[simp] theorem State.eachLocker_hbp : (s.eachLocker f).hbp = s.hbp := rfl
@[simp] theorem State.eachLocker_pvt : (s.eachLocker f).pvt = s.pvt := rfl
@[simp] theorem State.eachLocker_fsc : (s.eachLocker f).fsc = s.fsc := rfl
@[simp] theorem State.eachLocker_bkc : (s.eachLocker f).bkc = s.bkc := rfl
@[simp] theorem State.eachLocker_pnl : (s.eachLocker f).pnl = s.pnl := rfl
@[simp] theorem State.eachLocker_ocl : (s.eachLocker f).ocl = s.ocl := rfl
@[simp] theorem State.eachLocker_svl : (s.eachLocker f).svl = s.svl := rfl
@[simp] theorem State.eachLocker_cfl : (s.eachLocker f).cfl = s.cfl := rfl
@[simp] theorem State.eachLocker_overtaken : (s.eachLocker f).overtaken = s.overtaken := rfl
@[simp] theorem State.eachLocker_pending : (s.eachLocker f).pending = s.pending := rfl
@[simp] theorem State.eachLocker_cfg : (s.eachLocker f).cfg = s.cfg := rfl
@[simp] theorem State.eachLocker_running : (s.eachLocker f).running = s.running := rfl
end eachLocker

/-! ### A locker record under the updates of the records -/

theorem State.setLocker_locker (s : State) (n m : LockerNo) (l : Locker) :
    (s.setLocker n l).locker m = if m = n then l else s.locker m := by
  unfold State.setLocker State.locker
  by_cases h : m = n
  · subst h; simp
  · rw [if_neg h]
    exact Vector.getElem_set_ne n.isLt m.isLt (fun e => h (Fin.ext e.symm))

@[simp] theorem State.setLocker_locker_same (s : State) (n : LockerNo) (l : Locker) :
    (s.setLocker n l).locker n = l := by
  rw [State.setLocker_locker, if_pos rfl]

@[simp] theorem State.setLocker_locker_other (s : State) {n m : LockerNo} (l : Locker) (h : m ≠ n) :
    (s.setLocker n l).locker m = s.locker m := by
  rw [State.setLocker_locker, if_neg h]

theorem State.putLocker_locker (s : State) (n m : LockerNo) (l : Locker) :
    (s.putLocker n l).locker m = if m = n then l.refresh else s.locker m :=
  State.setLocker_locker s n m l.refresh

@[simp] theorem State.putLocker_locker_same (s : State) (n : LockerNo) (l : Locker) :
    (s.putLocker n l).locker n = l.refresh := State.setLocker_locker_same s n l.refresh

@[simp] theorem State.putLocker_locker_other (s : State) {n m : LockerNo} (l : Locker) (h : m ≠ n) :
    (s.putLocker n l).locker m = s.locker m := State.setLocker_locker_other s l.refresh h

@[simp] theorem State.eachLocker_locker (s : State) (f : LockerNo → Locker → Locker) (n : LockerNo) :
    (s.eachLocker f).locker n = f n (s.locker n) := by
  simp [State.eachLocker, State.locker]

/-- Two states agree on all lockers when their records agree. -/
theorem State.lockers_ext {s t : State} (h : ∀ n, s.locker n = t.locker n) : s.lockers = t.lockers := by
  apply Vector.ext
  intro i hi
  exact h ⟨i, hi⟩

/-- Putting back the record that is there changes nothing. -/
@[simp] theorem State.setLocker_self (s : State) (n : LockerNo) : s.setLocker n (s.locker n) = s := by
  unfold State.setLocker State.locker
  simp

/-! ### The reset state -/

@[simp] theorem State.reset_locker (n : LockerNo) : State.reset.locker n = Locker.reset := by
  simp [State.reset, State.locker]

@[simp] theorem allLockers_mem (n : LockerNo) : n ∈ allLockers := List.mem_finRange n

theorem allLockers_nodup : allLockers.Nodup := List.nodup_finRange 16

end Sys2Proof.Machine
end

