-- ==== Sys2Proof/Laws/Frames/Ops.lean ====
section
/-! SUPPORT. What the shared operations leave unchanged, block by block. -/

namespace Sys2Proof.Machine

@[simp] theorem State.sampleTrays_filing (s : State) (trays : Lines) : (s.sampleTrays trays).filing = s.filing := by
  simp [State.sampleTrays]
@[simp] theorem State.sampleTrays_slots (s : State) (trays : Lines) : (s.sampleTrays trays).slots = s.slots := by
  simp [State.sampleTrays]
@[simp] theorem State.sampleTrays_hdf (s : State) (trays : Lines) : (s.sampleTrays trays).hdf = s.hdf := by
  simp [State.sampleTrays]
@[simp] theorem State.sampleTrays_hbp (s : State) (trays : Lines) : (s.sampleTrays trays).hbp = s.hbp := by
  simp [State.sampleTrays]
@[simp] theorem State.sampleTrays_pvt (s : State) (trays : Lines) : (s.sampleTrays trays).pvt = s.pvt := by
  simp [State.sampleTrays]
@[simp] theorem State.sampleTrays_fsc (s : State) (trays : Lines) : (s.sampleTrays trays).fsc = s.fsc := by
  simp [State.sampleTrays]
@[simp] theorem State.sampleTrays_bkc (s : State) (trays : Lines) : (s.sampleTrays trays).bkc = s.bkc := by
  simp [State.sampleTrays]
@[simp] theorem State.sampleTrays_pnl (s : State) (trays : Lines) : (s.sampleTrays trays).pnl = s.pnl := by
  simp [State.sampleTrays]
@[simp] theorem State.sampleTrays_ocl (s : State) (trays : Lines) : (s.sampleTrays trays).ocl = s.ocl := by
  simp [State.sampleTrays]
@[simp] theorem State.sampleTrays_svl (s : State) (trays : Lines) : (s.sampleTrays trays).svl = s.svl := by
  simp [State.sampleTrays]
@[simp] theorem State.sampleTrays_cfl (s : State) (trays : Lines) : (s.sampleTrays trays).cfl = s.cfl := by
  simp [State.sampleTrays]
@[simp] theorem State.sampleTrays_overtaken (s : State) (trays : Lines) : (s.sampleTrays trays).overtaken = s.overtaken := by
  simp [State.sampleTrays]
@[simp] theorem State.sampleTrays_pending (s : State) (trays : Lines) : (s.sampleTrays trays).pending = s.pending := by
  simp [State.sampleTrays]
@[simp] theorem State.sampleTrays_cfg (s : State) (trays : Lines) : (s.sampleTrays trays).cfg = s.cfg := by
  simp [State.sampleTrays]
@[simp] theorem State.sampleTrays_running (s : State) (trays : Lines) : (s.sampleTrays trays).running = s.running := by
  simp [State.sampleTrays]

@[simp] theorem State.endClaim_filing (s : State) : (s.endClaim).filing = s.filing := by
  simp [State.endClaim]
@[simp] theorem State.endClaim_slots (s : State) : (s.endClaim).slots = s.slots := by
  simp [State.endClaim]
@[simp] theorem State.endClaim_hdf (s : State) : (s.endClaim).hdf = s.hdf := by
  simp [State.endClaim]
@[simp] theorem State.endClaim_hbp (s : State) : (s.endClaim).hbp = s.hbp := by
  simp [State.endClaim]
@[simp] theorem State.endClaim_pvt (s : State) : (s.endClaim).pvt = s.pvt := by
  simp [State.endClaim]
@[simp] theorem State.endClaim_fsc (s : State) : (s.endClaim).fsc = s.fsc := by
  simp [State.endClaim]
@[simp] theorem State.endClaim_bkc (s : State) : (s.endClaim).bkc = s.bkc := by
  simp [State.endClaim]
@[simp] theorem State.endClaim_ocl (s : State) : (s.endClaim).ocl = s.ocl := by
  simp [State.endClaim]
@[simp] theorem State.endClaim_svl (s : State) : (s.endClaim).svl = s.svl := by
  simp [State.endClaim]
@[simp] theorem State.endClaim_cfl (s : State) : (s.endClaim).cfl = s.cfl := by
  simp [State.endClaim]
@[simp] theorem State.endClaim_overtaken (s : State) : (s.endClaim).overtaken = s.overtaken := by
  simp [State.endClaim]
@[simp] theorem State.endClaim_pending (s : State) : (s.endClaim).pending = s.pending := by
  simp [State.endClaim]
@[simp] theorem State.endClaim_cfg (s : State) : (s.endClaim).cfg = s.cfg := by
  simp [State.endClaim]
@[simp] theorem State.endClaim_running (s : State) : (s.endClaim).running = s.running := by
  simp [State.endClaim]

@[simp] theorem State.leftHolding_filing (s : State) (n : LockerNo) (was : LockerState) : (s.leftHolding n was).filing = s.filing := by
  unfold State.leftHolding; split <;> simp
@[simp] theorem State.leftHolding_slots (s : State) (n : LockerNo) (was : LockerState) : (s.leftHolding n was).slots = s.slots := by
  unfold State.leftHolding; split <;> simp
@[simp] theorem State.leftHolding_hdf (s : State) (n : LockerNo) (was : LockerState) : (s.leftHolding n was).hdf = s.hdf := by
  unfold State.leftHolding; split <;> simp
@[simp] theorem State.leftHolding_hbp (s : State) (n : LockerNo) (was : LockerState) : (s.leftHolding n was).hbp = s.hbp := by
  unfold State.leftHolding; split <;> simp
@[simp] theorem State.leftHolding_pvt (s : State) (n : LockerNo) (was : LockerState) : (s.leftHolding n was).pvt = s.pvt := by
  unfold State.leftHolding; split <;> simp
@[simp] theorem State.leftHolding_fsc (s : State) (n : LockerNo) (was : LockerState) : (s.leftHolding n was).fsc = s.fsc := by
  unfold State.leftHolding; split <;> simp
@[simp] theorem State.leftHolding_bkc (s : State) (n : LockerNo) (was : LockerState) : (s.leftHolding n was).bkc = s.bkc := by
  unfold State.leftHolding; split <;> simp
@[simp] theorem State.leftHolding_ocl (s : State) (n : LockerNo) (was : LockerState) : (s.leftHolding n was).ocl = s.ocl := by
  unfold State.leftHolding; split <;> simp
@[simp] theorem State.leftHolding_svl (s : State) (n : LockerNo) (was : LockerState) : (s.leftHolding n was).svl = s.svl := by
  unfold State.leftHolding; split <;> simp
@[simp] theorem State.leftHolding_cfl (s : State) (n : LockerNo) (was : LockerState) : (s.leftHolding n was).cfl = s.cfl := by
  unfold State.leftHolding; split <;> simp
@[simp] theorem State.leftHolding_overtaken (s : State) (n : LockerNo) (was : LockerState) : (s.leftHolding n was).overtaken = s.overtaken := by
  unfold State.leftHolding; split <;> simp
@[simp] theorem State.leftHolding_pending (s : State) (n : LockerNo) (was : LockerState) : (s.leftHolding n was).pending = s.pending := by
  unfold State.leftHolding; split <;> simp
@[simp] theorem State.leftHolding_cfg (s : State) (n : LockerNo) (was : LockerState) : (s.leftHolding n was).cfg = s.cfg := by
  unfold State.leftHolding; split <;> simp
@[simp] theorem State.leftHolding_running (s : State) (n : LockerNo) (was : LockerState) : (s.leftHolding n was).running = s.running := by
  unfold State.leftHolding; split <;> simp

@[simp] theorem State.fileOrQueue_slots (s : State) (n : LockerNo) (r : OutcomeRecord) : (s.fileOrQueue n r).slots = s.slots := by
  unfold State.fileOrQueue; split <;> simp
@[simp] theorem State.fileOrQueue_hdf (s : State) (n : LockerNo) (r : OutcomeRecord) : (s.fileOrQueue n r).hdf = s.hdf := by
  unfold State.fileOrQueue; split <;> simp
@[simp] theorem State.fileOrQueue_hbp (s : State) (n : LockerNo) (r : OutcomeRecord) : (s.fileOrQueue n r).hbp = s.hbp := by
  unfold State.fileOrQueue; split <;> simp
@[simp] theorem State.fileOrQueue_pvt (s : State) (n : LockerNo) (r : OutcomeRecord) : (s.fileOrQueue n r).pvt = s.pvt := by
  unfold State.fileOrQueue; split <;> simp
@[simp] theorem State.fileOrQueue_fsc (s : State) (n : LockerNo) (r : OutcomeRecord) : (s.fileOrQueue n r).fsc = s.fsc := by
  unfold State.fileOrQueue; split <;> simp
@[simp] theorem State.fileOrQueue_bkc (s : State) (n : LockerNo) (r : OutcomeRecord) : (s.fileOrQueue n r).bkc = s.bkc := by
  unfold State.fileOrQueue; split <;> simp
@[simp] theorem State.fileOrQueue_pnl (s : State) (n : LockerNo) (r : OutcomeRecord) : (s.fileOrQueue n r).pnl = s.pnl := by
  unfold State.fileOrQueue; split <;> simp
@[simp] theorem State.fileOrQueue_svl (s : State) (n : LockerNo) (r : OutcomeRecord) : (s.fileOrQueue n r).svl = s.svl := by
  unfold State.fileOrQueue; split <;> simp
@[simp] theorem State.fileOrQueue_cfl (s : State) (n : LockerNo) (r : OutcomeRecord) : (s.fileOrQueue n r).cfl = s.cfl := by
  unfold State.fileOrQueue; split <;> simp
@[simp] theorem State.fileOrQueue_overtaken (s : State) (n : LockerNo) (r : OutcomeRecord) : (s.fileOrQueue n r).overtaken = s.overtaken := by
  unfold State.fileOrQueue; split <;> simp
@[simp] theorem State.fileOrQueue_pending (s : State) (n : LockerNo) (r : OutcomeRecord) : (s.fileOrQueue n r).pending = s.pending := by
  unfold State.fileOrQueue; split <;> simp
@[simp] theorem State.fileOrQueue_cfg (s : State) (n : LockerNo) (r : OutcomeRecord) : (s.fileOrQueue n r).cfg = s.cfg := by
  unfold State.fileOrQueue; split <;> simp
@[simp] theorem State.fileOrQueue_running (s : State) (n : LockerNo) (r : OutcomeRecord) : (s.fileOrQueue n r).running = s.running := by
  unfold State.fileOrQueue; split <;> simp

@[simp] theorem State.endInLockout_slots (s : State) (n : LockerNo) (c : Cause) (e : BookingEnd) : (s.endInLockout n c e).slots = s.slots := by
  simp [State.endInLockout]
@[simp] theorem State.endInLockout_hdf (s : State) (n : LockerNo) (c : Cause) (e : BookingEnd) : (s.endInLockout n c e).hdf = s.hdf := by
  simp [State.endInLockout]
@[simp] theorem State.endInLockout_hbp (s : State) (n : LockerNo) (c : Cause) (e : BookingEnd) : (s.endInLockout n c e).hbp = s.hbp := by
  simp [State.endInLockout]
@[simp] theorem State.endInLockout_pvt (s : State) (n : LockerNo) (c : Cause) (e : BookingEnd) : (s.endInLockout n c e).pvt = s.pvt := by
  simp [State.endInLockout]
@[simp] theorem State.endInLockout_fsc (s : State) (n : LockerNo) (c : Cause) (e : BookingEnd) : (s.endInLockout n c e).fsc = s.fsc := by
  simp [State.endInLockout]
@[simp] theorem State.endInLockout_bkc (s : State) (n : LockerNo) (c : Cause) (e : BookingEnd) : (s.endInLockout n c e).bkc = s.bkc := by
  simp [State.endInLockout]
@[simp] theorem State.endInLockout_svl (s : State) (n : LockerNo) (c : Cause) (e : BookingEnd) : (s.endInLockout n c e).svl = s.svl := by
  simp [State.endInLockout]
@[simp] theorem State.endInLockout_cfl (s : State) (n : LockerNo) (c : Cause) (e : BookingEnd) : (s.endInLockout n c e).cfl = s.cfl := by
  simp [State.endInLockout]
@[simp] theorem State.endInLockout_overtaken (s : State) (n : LockerNo) (c : Cause) (e : BookingEnd) : (s.endInLockout n c e).overtaken = s.overtaken := by
  simp [State.endInLockout]
@[simp] theorem State.endInLockout_pending (s : State) (n : LockerNo) (c : Cause) (e : BookingEnd) : (s.endInLockout n c e).pending = s.pending := by
  simp [State.endInLockout]
@[simp] theorem State.endInLockout_cfg (s : State) (n : LockerNo) (c : Cause) (e : BookingEnd) : (s.endInLockout n c e).cfg = s.cfg := by
  simp [State.endInLockout]
@[simp] theorem State.endInLockout_running (s : State) (n : LockerNo) (c : Cause) (e : BookingEnd) : (s.endInLockout n c e).running = s.running := by
  simp [State.endInLockout]

@[simp] theorem State.endCollected_slots (s : State) (n : LockerNo) : (s.endCollected n).slots = s.slots := by
  simp [State.endCollected]
@[simp] theorem State.endCollected_hdf (s : State) (n : LockerNo) : (s.endCollected n).hdf = s.hdf := by
  simp [State.endCollected]
@[simp] theorem State.endCollected_hbp (s : State) (n : LockerNo) : (s.endCollected n).hbp = s.hbp := by
  simp [State.endCollected]
@[simp] theorem State.endCollected_pvt (s : State) (n : LockerNo) : (s.endCollected n).pvt = s.pvt := by
  simp [State.endCollected]
@[simp] theorem State.endCollected_fsc (s : State) (n : LockerNo) : (s.endCollected n).fsc = s.fsc := by
  simp [State.endCollected]
@[simp] theorem State.endCollected_bkc (s : State) (n : LockerNo) : (s.endCollected n).bkc = s.bkc := by
  simp [State.endCollected]
@[simp] theorem State.endCollected_pnl (s : State) (n : LockerNo) : (s.endCollected n).pnl = s.pnl := by
  simp [State.endCollected]
@[simp] theorem State.endCollected_svl (s : State) (n : LockerNo) : (s.endCollected n).svl = s.svl := by
  simp [State.endCollected]
@[simp] theorem State.endCollected_cfl (s : State) (n : LockerNo) : (s.endCollected n).cfl = s.cfl := by
  simp [State.endCollected]
@[simp] theorem State.endCollected_overtaken (s : State) (n : LockerNo) : (s.endCollected n).overtaken = s.overtaken := by
  simp [State.endCollected]
@[simp] theorem State.endCollected_pending (s : State) (n : LockerNo) : (s.endCollected n).pending = s.pending := by
  simp [State.endCollected]
@[simp] theorem State.endCollected_cfg (s : State) (n : LockerNo) : (s.endCollected n).cfg = s.cfg := by
  simp [State.endCollected]
@[simp] theorem State.endCollected_running (s : State) (n : LockerNo) : (s.endCollected n).running = s.running := by
  simp [State.endCollected]

@[simp] theorem State.fileFromQueue_slots (s : State) : (s.fileFromQueue).slots = s.slots := by
  unfold State.fileFromQueue; split <;> simp
@[simp] theorem State.fileFromQueue_hdf (s : State) : (s.fileFromQueue).hdf = s.hdf := by
  unfold State.fileFromQueue; split <;> simp
@[simp] theorem State.fileFromQueue_hbp (s : State) : (s.fileFromQueue).hbp = s.hbp := by
  unfold State.fileFromQueue; split <;> simp
@[simp] theorem State.fileFromQueue_pvt (s : State) : (s.fileFromQueue).pvt = s.pvt := by
  unfold State.fileFromQueue; split <;> simp
@[simp] theorem State.fileFromQueue_fsc (s : State) : (s.fileFromQueue).fsc = s.fsc := by
  unfold State.fileFromQueue; split <;> simp
@[simp] theorem State.fileFromQueue_bkc (s : State) : (s.fileFromQueue).bkc = s.bkc := by
  unfold State.fileFromQueue; split <;> simp
@[simp] theorem State.fileFromQueue_pnl (s : State) : (s.fileFromQueue).pnl = s.pnl := by
  unfold State.fileFromQueue; split <;> simp
@[simp] theorem State.fileFromQueue_svl (s : State) : (s.fileFromQueue).svl = s.svl := by
  unfold State.fileFromQueue; split <;> simp
@[simp] theorem State.fileFromQueue_cfl (s : State) : (s.fileFromQueue).cfl = s.cfl := by
  unfold State.fileFromQueue; split <;> simp
@[simp] theorem State.fileFromQueue_overtaken (s : State) : (s.fileFromQueue).overtaken = s.overtaken := by
  unfold State.fileFromQueue; split <;> simp
@[simp] theorem State.fileFromQueue_pending (s : State) : (s.fileFromQueue).pending = s.pending := by
  unfold State.fileFromQueue; split <;> simp
@[simp] theorem State.fileFromQueue_cfg (s : State) : (s.fileFromQueue).cfg = s.cfg := by
  unfold State.fileFromQueue; split <;> simp
@[simp] theorem State.fileFromQueue_running (s : State) : (s.fileFromQueue).running = s.running := by
  unfold State.fileFromQueue; split <;> simp

@[simp] theorem State.enterLoading_filing (s : State) (n : LockerNo) : (s.enterLoading n).filing = s.filing := by
  simp [State.enterLoading]
@[simp] theorem State.enterLoading_slots (s : State) (n : LockerNo) : (s.enterLoading n).slots = s.slots := by
  simp [State.enterLoading]
@[simp] theorem State.enterLoading_hdf (s : State) (n : LockerNo) : (s.enterLoading n).hdf = s.hdf := by
  simp [State.enterLoading]
@[simp] theorem State.enterLoading_hbp (s : State) (n : LockerNo) : (s.enterLoading n).hbp = s.hbp := by
  simp [State.enterLoading]
@[simp] theorem State.enterLoading_pvt (s : State) (n : LockerNo) : (s.enterLoading n).pvt = s.pvt := by
  simp [State.enterLoading]
@[simp] theorem State.enterLoading_fsc (s : State) (n : LockerNo) : (s.enterLoading n).fsc = s.fsc := by
  simp [State.enterLoading]
@[simp] theorem State.enterLoading_bkc (s : State) (n : LockerNo) : (s.enterLoading n).bkc = s.bkc := by
  simp [State.enterLoading]
@[simp] theorem State.enterLoading_pnl (s : State) (n : LockerNo) : (s.enterLoading n).pnl = s.pnl := by
  simp [State.enterLoading]
@[simp] theorem State.enterLoading_ocl (s : State) (n : LockerNo) : (s.enterLoading n).ocl = s.ocl := by
  simp [State.enterLoading]
@[simp] theorem State.enterLoading_svl (s : State) (n : LockerNo) : (s.enterLoading n).svl = s.svl := by
  simp [State.enterLoading]
@[simp] theorem State.enterLoading_cfl (s : State) (n : LockerNo) : (s.enterLoading n).cfl = s.cfl := by
  simp [State.enterLoading]
@[simp] theorem State.enterLoading_overtaken (s : State) (n : LockerNo) : (s.enterLoading n).overtaken = s.overtaken := by
  simp [State.enterLoading]
@[simp] theorem State.enterLoading_pending (s : State) (n : LockerNo) : (s.enterLoading n).pending = s.pending := by
  simp [State.enterLoading]
@[simp] theorem State.enterLoading_cfg (s : State) (n : LockerNo) : (s.enterLoading n).cfg = s.cfg := by
  simp [State.enterLoading]
@[simp] theorem State.enterLoading_running (s : State) (n : LockerNo) : (s.enterLoading n).running = s.running := by
  simp [State.enterLoading]

@[simp] theorem State.giveTurn_filing (s : State) (es : List ChainEntry) : (s.giveTurn es).filing = s.filing := by
  induction es generalizing s with
  | nil => simp [State.giveTurn]
  | cons e rest ih => unfold State.giveTurn; split <;> simp [ih]
@[simp] theorem State.giveTurn_slots (s : State) (es : List ChainEntry) : (s.giveTurn es).slots = s.slots := by
  induction es generalizing s with
  | nil => simp [State.giveTurn]
  | cons e rest ih => unfold State.giveTurn; split <;> simp [ih]
@[simp] theorem State.giveTurn_hdf (s : State) (es : List ChainEntry) : (s.giveTurn es).hdf = s.hdf := by
  induction es generalizing s with
  | nil => simp [State.giveTurn]
  | cons e rest ih => unfold State.giveTurn; split <;> simp [ih]
@[simp] theorem State.giveTurn_hbp (s : State) (es : List ChainEntry) : (s.giveTurn es).hbp = s.hbp := by
  induction es generalizing s with
  | nil => simp [State.giveTurn]
  | cons e rest ih => unfold State.giveTurn; split <;> simp [ih]
@[simp] theorem State.giveTurn_pvt (s : State) (es : List ChainEntry) : (s.giveTurn es).pvt = s.pvt := by
  induction es generalizing s with
  | nil => simp [State.giveTurn]
  | cons e rest ih => unfold State.giveTurn; split <;> simp [ih]
@[simp] theorem State.giveTurn_fsc (s : State) (es : List ChainEntry) : (s.giveTurn es).fsc = s.fsc := by
  induction es generalizing s with
  | nil => simp [State.giveTurn]
  | cons e rest ih => unfold State.giveTurn; split <;> simp [ih]
@[simp] theorem State.giveTurn_pnl (s : State) (es : List ChainEntry) : (s.giveTurn es).pnl = s.pnl := by
  induction es generalizing s with
  | nil => simp [State.giveTurn]
  | cons e rest ih => unfold State.giveTurn; split <;> simp [ih]
@[simp] theorem State.giveTurn_ocl (s : State) (es : List ChainEntry) : (s.giveTurn es).ocl = s.ocl := by
  induction es generalizing s with
  | nil => simp [State.giveTurn]
  | cons e rest ih => unfold State.giveTurn; split <;> simp [ih]
@[simp] theorem State.giveTurn_svl (s : State) (es : List ChainEntry) : (s.giveTurn es).svl = s.svl := by
  induction es generalizing s with
  | nil => simp [State.giveTurn]
  | cons e rest ih => unfold State.giveTurn; split <;> simp [ih]
@[simp] theorem State.giveTurn_cfl (s : State) (es : List ChainEntry) : (s.giveTurn es).cfl = s.cfl := by
  induction es generalizing s with
  | nil => simp [State.giveTurn]
  | cons e rest ih => unfold State.giveTurn; split <;> simp [ih]
@[simp] theorem State.giveTurn_overtaken (s : State) (es : List ChainEntry) : (s.giveTurn es).overtaken = s.overtaken := by
  induction es generalizing s with
  | nil => simp [State.giveTurn]
  | cons e rest ih => unfold State.giveTurn; split <;> simp [ih]
@[simp] theorem State.giveTurn_pending (s : State) (es : List ChainEntry) : (s.giveTurn es).pending = s.pending := by
  induction es generalizing s with
  | nil => simp [State.giveTurn]
  | cons e rest ih => unfold State.giveTurn; split <;> simp [ih]
@[simp] theorem State.giveTurn_cfg (s : State) (es : List ChainEntry) : (s.giveTurn es).cfg = s.cfg := by
  induction es generalizing s with
  | nil => simp [State.giveTurn]
  | cons e rest ih => unfold State.giveTurn; split <;> simp [ih]
@[simp] theorem State.giveTurn_running (s : State) (es : List ChainEntry) : (s.giveTurn es).running = s.running := by
  induction es generalizing s with
  | nil => simp [State.giveTurn]
  | cons e rest ih => unfold State.giveTurn; split <;> simp [ih]

@[simp] theorem State.loadingExit_filing (s : State) (x : LoadingExit) : (s.loadingExit x).filing = s.filing := by
  simp [State.loadingExit]
@[simp] theorem State.loadingExit_slots (s : State) (x : LoadingExit) : (s.loadingExit x).slots = s.slots := by
  simp [State.loadingExit]
@[simp] theorem State.loadingExit_hdf (s : State) (x : LoadingExit) : (s.loadingExit x).hdf = s.hdf := by
  simp [State.loadingExit]
@[simp] theorem State.loadingExit_hbp (s : State) (x : LoadingExit) : (s.loadingExit x).hbp = s.hbp := by
  simp [State.loadingExit]
@[simp] theorem State.loadingExit_pvt (s : State) (x : LoadingExit) : (s.loadingExit x).pvt = s.pvt := by
  simp [State.loadingExit]
@[simp] theorem State.loadingExit_fsc (s : State) (x : LoadingExit) : (s.loadingExit x).fsc = s.fsc := by
  simp [State.loadingExit]
@[simp] theorem State.loadingExit_pnl (s : State) (x : LoadingExit) : (s.loadingExit x).pnl = s.pnl := by
  simp [State.loadingExit]
@[simp] theorem State.loadingExit_ocl (s : State) (x : LoadingExit) : (s.loadingExit x).ocl = s.ocl := by
  simp [State.loadingExit]
@[simp] theorem State.loadingExit_svl (s : State) (x : LoadingExit) : (s.loadingExit x).svl = s.svl := by
  simp [State.loadingExit]
@[simp] theorem State.loadingExit_cfl (s : State) (x : LoadingExit) : (s.loadingExit x).cfl = s.cfl := by
  simp [State.loadingExit]
@[simp] theorem State.loadingExit_overtaken (s : State) (x : LoadingExit) : (s.loadingExit x).overtaken = s.overtaken := by
  simp [State.loadingExit]
@[simp] theorem State.loadingExit_pending (s : State) (x : LoadingExit) : (s.loadingExit x).pending = s.pending := by
  simp [State.loadingExit]
@[simp] theorem State.loadingExit_cfg (s : State) (x : LoadingExit) : (s.loadingExit x).cfg = s.cfg := by
  simp [State.loadingExit]
@[simp] theorem State.loadingExit_running (s : State) (x : LoadingExit) : (s.loadingExit x).running = s.running := by
  simp [State.loadingExit]

@[simp] theorem State.backToBooked_filing (s : State) (n : LockerNo) : (s.backToBooked n).filing = s.filing := by
  simp [State.backToBooked]
@[simp] theorem State.backToBooked_slots (s : State) (n : LockerNo) : (s.backToBooked n).slots = s.slots := by
  simp [State.backToBooked]
@[simp] theorem State.backToBooked_hdf (s : State) (n : LockerNo) : (s.backToBooked n).hdf = s.hdf := by
  simp [State.backToBooked]
@[simp] theorem State.backToBooked_hbp (s : State) (n : LockerNo) : (s.backToBooked n).hbp = s.hbp := by
  simp [State.backToBooked]
@[simp] theorem State.backToBooked_pvt (s : State) (n : LockerNo) : (s.backToBooked n).pvt = s.pvt := by
  simp [State.backToBooked]
@[simp] theorem State.backToBooked_fsc (s : State) (n : LockerNo) : (s.backToBooked n).fsc = s.fsc := by
  simp [State.backToBooked]
@[simp] theorem State.backToBooked_bkc (s : State) (n : LockerNo) : (s.backToBooked n).bkc = s.bkc := by
  simp [State.backToBooked]
@[simp] theorem State.backToBooked_pnl (s : State) (n : LockerNo) : (s.backToBooked n).pnl = s.pnl := by
  simp [State.backToBooked]
@[simp] theorem State.backToBooked_ocl (s : State) (n : LockerNo) : (s.backToBooked n).ocl = s.ocl := by
  simp [State.backToBooked]
@[simp] theorem State.backToBooked_svl (s : State) (n : LockerNo) : (s.backToBooked n).svl = s.svl := by
  simp [State.backToBooked]
@[simp] theorem State.backToBooked_cfl (s : State) (n : LockerNo) : (s.backToBooked n).cfl = s.cfl := by
  simp [State.backToBooked]
@[simp] theorem State.backToBooked_overtaken (s : State) (n : LockerNo) : (s.backToBooked n).overtaken = s.overtaken := by
  simp [State.backToBooked]
@[simp] theorem State.backToBooked_pending (s : State) (n : LockerNo) : (s.backToBooked n).pending = s.pending := by
  simp [State.backToBooked]
@[simp] theorem State.backToBooked_cfg (s : State) (n : LockerNo) : (s.backToBooked n).cfg = s.cfg := by
  simp [State.backToBooked]
@[simp] theorem State.backToBooked_running (s : State) (n : LockerNo) : (s.backToBooked n).running = s.running := by
  simp [State.backToBooked]

@[simp] theorem State.toClearing_filing (s : State) (n : LockerNo) : (s.toClearing n).filing = s.filing := by
  simp [State.toClearing]
@[simp] theorem State.toClearing_slots (s : State) (n : LockerNo) : (s.toClearing n).slots = s.slots := by
  simp [State.toClearing]
@[simp] theorem State.toClearing_hdf (s : State) (n : LockerNo) : (s.toClearing n).hdf = s.hdf := by
  simp [State.toClearing]
@[simp] theorem State.toClearing_hbp (s : State) (n : LockerNo) : (s.toClearing n).hbp = s.hbp := by
  simp [State.toClearing]
@[simp] theorem State.toClearing_pvt (s : State) (n : LockerNo) : (s.toClearing n).pvt = s.pvt := by
  simp [State.toClearing]
@[simp] theorem State.toClearing_fsc (s : State) (n : LockerNo) : (s.toClearing n).fsc = s.fsc := by
  simp [State.toClearing]
@[simp] theorem State.toClearing_bkc (s : State) (n : LockerNo) : (s.toClearing n).bkc = s.bkc := by
  simp [State.toClearing]
@[simp] theorem State.toClearing_pnl (s : State) (n : LockerNo) : (s.toClearing n).pnl = s.pnl := by
  simp [State.toClearing]
@[simp] theorem State.toClearing_ocl (s : State) (n : LockerNo) : (s.toClearing n).ocl = s.ocl := by
  simp [State.toClearing]
@[simp] theorem State.toClearing_svl (s : State) (n : LockerNo) : (s.toClearing n).svl = s.svl := by
  simp [State.toClearing]
@[simp] theorem State.toClearing_cfl (s : State) (n : LockerNo) : (s.toClearing n).cfl = s.cfl := by
  simp [State.toClearing]
@[simp] theorem State.toClearing_overtaken (s : State) (n : LockerNo) : (s.toClearing n).overtaken = s.overtaken := by
  simp [State.toClearing]
@[simp] theorem State.toClearing_pending (s : State) (n : LockerNo) : (s.toClearing n).pending = s.pending := by
  simp [State.toClearing]
@[simp] theorem State.toClearing_cfg (s : State) (n : LockerNo) : (s.toClearing n).cfg = s.cfg := by
  simp [State.toClearing]
@[simp] theorem State.toClearing_running (s : State) (n : LockerNo) : (s.toClearing n).running = s.running := by
  simp [State.toClearing]

@[simp] theorem State.respond_filing (s : State) (c : Byte) (a : Answer) : (s.respond c a).filing = s.filing := by
  simp [State.respond]
@[simp] theorem State.respond_slots (s : State) (c : Byte) (a : Answer) : (s.respond c a).slots = s.slots := by
  simp [State.respond]
@[simp] theorem State.respond_hdf (s : State) (c : Byte) (a : Answer) : (s.respond c a).hdf = s.hdf := by
  simp [State.respond]
@[simp] theorem State.respond_hbp (s : State) (c : Byte) (a : Answer) : (s.respond c a).hbp = s.hbp := by
  simp [State.respond]
@[simp] theorem State.respond_pvt (s : State) (c : Byte) (a : Answer) : (s.respond c a).pvt = s.pvt := by
  simp [State.respond]
@[simp] theorem State.respond_fsc (s : State) (c : Byte) (a : Answer) : (s.respond c a).fsc = s.fsc := by
  simp [State.respond]
@[simp] theorem State.respond_bkc (s : State) (c : Byte) (a : Answer) : (s.respond c a).bkc = s.bkc := by
  simp [State.respond]
@[simp] theorem State.respond_pnl (s : State) (c : Byte) (a : Answer) : (s.respond c a).pnl = s.pnl := by
  simp [State.respond]
@[simp] theorem State.respond_ocl (s : State) (c : Byte) (a : Answer) : (s.respond c a).ocl = s.ocl := by
  simp [State.respond]
@[simp] theorem State.respond_cfl (s : State) (c : Byte) (a : Answer) : (s.respond c a).cfl = s.cfl := by
  simp [State.respond]
@[simp] theorem State.respond_overtaken (s : State) (c : Byte) (a : Answer) : (s.respond c a).overtaken = s.overtaken := by
  simp [State.respond]
@[simp] theorem State.respond_pending (s : State) (c : Byte) (a : Answer) : (s.respond c a).pending = s.pending := by
  simp [State.respond]
@[simp] theorem State.respond_cfg (s : State) (c : Byte) (a : Answer) : (s.respond c a).cfg = s.cfg := by
  simp [State.respond]
@[simp] theorem State.respond_running (s : State) (c : Byte) (a : Answer) : (s.respond c a).running = s.running := by
  simp [State.respond]

@[simp] theorem State.panelRespond_filing (s : State) (t : Byte) (a : PanelAnswer) : (s.panelRespond t a).filing = s.filing := by
  simp [State.panelRespond]
@[simp] theorem State.panelRespond_slots (s : State) (t : Byte) (a : PanelAnswer) : (s.panelRespond t a).slots = s.slots := by
  simp [State.panelRespond]
@[simp] theorem State.panelRespond_hdf (s : State) (t : Byte) (a : PanelAnswer) : (s.panelRespond t a).hdf = s.hdf := by
  simp [State.panelRespond]
@[simp] theorem State.panelRespond_hbp (s : State) (t : Byte) (a : PanelAnswer) : (s.panelRespond t a).hbp = s.hbp := by
  simp [State.panelRespond]
@[simp] theorem State.panelRespond_pvt (s : State) (t : Byte) (a : PanelAnswer) : (s.panelRespond t a).pvt = s.pvt := by
  simp [State.panelRespond]
@[simp] theorem State.panelRespond_fsc (s : State) (t : Byte) (a : PanelAnswer) : (s.panelRespond t a).fsc = s.fsc := by
  simp [State.panelRespond]
@[simp] theorem State.panelRespond_bkc (s : State) (t : Byte) (a : PanelAnswer) : (s.panelRespond t a).bkc = s.bkc := by
  simp [State.panelRespond]
@[simp] theorem State.panelRespond_ocl (s : State) (t : Byte) (a : PanelAnswer) : (s.panelRespond t a).ocl = s.ocl := by
  simp [State.panelRespond]
@[simp] theorem State.panelRespond_svl (s : State) (t : Byte) (a : PanelAnswer) : (s.panelRespond t a).svl = s.svl := by
  simp [State.panelRespond]
@[simp] theorem State.panelRespond_cfl (s : State) (t : Byte) (a : PanelAnswer) : (s.panelRespond t a).cfl = s.cfl := by
  simp [State.panelRespond]
@[simp] theorem State.panelRespond_overtaken (s : State) (t : Byte) (a : PanelAnswer) : (s.panelRespond t a).overtaken = s.overtaken := by
  simp [State.panelRespond]
@[simp] theorem State.panelRespond_pending (s : State) (t : Byte) (a : PanelAnswer) : (s.panelRespond t a).pending = s.pending := by
  simp [State.panelRespond]
@[simp] theorem State.panelRespond_cfg (s : State) (t : Byte) (a : PanelAnswer) : (s.panelRespond t a).cfg = s.cfg := by
  simp [State.panelRespond]
@[simp] theorem State.panelRespond_running (s : State) (t : Byte) (a : PanelAnswer) : (s.panelRespond t a).running = s.running := by
  simp [State.panelRespond]

@[simp] theorem State.advance_filing (s : State) (d : Nat) : (s.advance d).filing = s.filing := by
  unfold State.advance; split <;> rfl
@[simp] theorem State.advance_slots (s : State) (d : Nat) : (s.advance d).slots = s.slots := by
  unfold State.advance; split <;> rfl
@[simp] theorem State.advance_hbp (s : State) (d : Nat) : (s.advance d).hbp = s.hbp := by
  unfold State.advance; split <;> rfl
@[simp] theorem State.advance_pvt (s : State) (d : Nat) : (s.advance d).pvt = s.pvt := by
  unfold State.advance; split <;> rfl
@[simp] theorem State.advance_bkc (s : State) (d : Nat) : (s.advance d).bkc = s.bkc := by
  unfold State.advance; split <;> rfl
@[simp] theorem State.advance_ocl (s : State) (d : Nat) : (s.advance d).ocl = s.ocl := by
  unfold State.advance; split <;> rfl
@[simp] theorem State.advance_cfl (s : State) (d : Nat) : (s.advance d).cfl = s.cfl := by
  unfold State.advance; split <;> rfl
@[simp] theorem State.advance_pending (s : State) (d : Nat) : (s.advance d).pending = s.pending := by
  unfold State.advance; split <;> rfl
@[simp] theorem State.advance_cfg (s : State) (d : Nat) : (s.advance d).cfg = s.cfg := by
  unfold State.advance; split <;> rfl
@[simp] theorem State.advance_running (s : State) (d : Nat) : (s.advance d).running = s.running := by
  unfold State.advance; split <;> rfl

end Sys2Proof.Machine
end

