-- ==== Sys2Proof/Laws/Frames/Booking.lean ====
section
/-! SUPPORT. What the operations of BKC and PNL leave unchanged, block by block. -/

namespace Sys2Proof.Machine

@[simp] theorem State.assign_filing (s : State) (n : LockerNo) (ref : OrderRef) (code : Code) (p : Byte) : (s.assign n ref code p).filing = s.filing := by
  simp [State.assign]
@[simp] theorem State.assign_slots (s : State) (n : LockerNo) (ref : OrderRef) (code : Code) (p : Byte) : (s.assign n ref code p).slots = s.slots := by
  simp [State.assign]
@[simp] theorem State.assign_hdf (s : State) (n : LockerNo) (ref : OrderRef) (code : Code) (p : Byte) : (s.assign n ref code p).hdf = s.hdf := by
  simp [State.assign]
@[simp] theorem State.assign_hbp (s : State) (n : LockerNo) (ref : OrderRef) (code : Code) (p : Byte) : (s.assign n ref code p).hbp = s.hbp := by
  simp [State.assign]
@[simp] theorem State.assign_pvt (s : State) (n : LockerNo) (ref : OrderRef) (code : Code) (p : Byte) : (s.assign n ref code p).pvt = s.pvt := by
  simp [State.assign]
@[simp] theorem State.assign_fsc (s : State) (n : LockerNo) (ref : OrderRef) (code : Code) (p : Byte) : (s.assign n ref code p).fsc = s.fsc := by
  simp [State.assign]
@[simp] theorem State.assign_bkc (s : State) (n : LockerNo) (ref : OrderRef) (code : Code) (p : Byte) : (s.assign n ref code p).bkc = s.bkc := by
  simp [State.assign]
@[simp] theorem State.assign_pnl (s : State) (n : LockerNo) (ref : OrderRef) (code : Code) (p : Byte) : (s.assign n ref code p).pnl = s.pnl := by
  simp [State.assign]
@[simp] theorem State.assign_ocl (s : State) (n : LockerNo) (ref : OrderRef) (code : Code) (p : Byte) : (s.assign n ref code p).ocl = s.ocl := by
  simp [State.assign]
@[simp] theorem State.assign_svl (s : State) (n : LockerNo) (ref : OrderRef) (code : Code) (p : Byte) : (s.assign n ref code p).svl = s.svl := by
  simp [State.assign]
@[simp] theorem State.assign_cfl (s : State) (n : LockerNo) (ref : OrderRef) (code : Code) (p : Byte) : (s.assign n ref code p).cfl = s.cfl := by
  simp [State.assign]
@[simp] theorem State.assign_overtaken (s : State) (n : LockerNo) (ref : OrderRef) (code : Code) (p : Byte) : (s.assign n ref code p).overtaken = s.overtaken := by
  simp [State.assign]
@[simp] theorem State.assign_pending (s : State) (n : LockerNo) (ref : OrderRef) (code : Code) (p : Byte) : (s.assign n ref code p).pending = s.pending := by
  simp [State.assign]
@[simp] theorem State.assign_cfg (s : State) (n : LockerNo) (ref : OrderRef) (code : Code) (p : Byte) : (s.assign n ref code p).cfg = s.cfg := by
  simp [State.assign]
@[simp] theorem State.assign_running (s : State) (n : LockerNo) (ref : OrderRef) (code : Code) (p : Byte) : (s.assign n ref code p).running = s.running := by
  simp [State.assign]

@[simp] theorem State.relatch_filing (s : State) (n : LockerNo) : (s.relatch n).filing = s.filing := by
  unfold State.relatch; split <;> simp
@[simp] theorem State.relatch_slots (s : State) (n : LockerNo) : (s.relatch n).slots = s.slots := by
  unfold State.relatch; split <;> simp
@[simp] theorem State.relatch_hdf (s : State) (n : LockerNo) : (s.relatch n).hdf = s.hdf := by
  unfold State.relatch; split <;> simp
@[simp] theorem State.relatch_hbp (s : State) (n : LockerNo) : (s.relatch n).hbp = s.hbp := by
  unfold State.relatch; split <;> simp
@[simp] theorem State.relatch_pvt (s : State) (n : LockerNo) : (s.relatch n).pvt = s.pvt := by
  unfold State.relatch; split <;> simp
@[simp] theorem State.relatch_fsc (s : State) (n : LockerNo) : (s.relatch n).fsc = s.fsc := by
  unfold State.relatch; split <;> simp
@[simp] theorem State.relatch_pnl (s : State) (n : LockerNo) : (s.relatch n).pnl = s.pnl := by
  unfold State.relatch; split <;> simp
@[simp] theorem State.relatch_ocl (s : State) (n : LockerNo) : (s.relatch n).ocl = s.ocl := by
  unfold State.relatch; split <;> simp
@[simp] theorem State.relatch_svl (s : State) (n : LockerNo) : (s.relatch n).svl = s.svl := by
  unfold State.relatch; split <;> simp
@[simp] theorem State.relatch_cfl (s : State) (n : LockerNo) : (s.relatch n).cfl = s.cfl := by
  unfold State.relatch; split <;> simp
@[simp] theorem State.relatch_overtaken (s : State) (n : LockerNo) : (s.relatch n).overtaken = s.overtaken := by
  unfold State.relatch; split <;> simp
@[simp] theorem State.relatch_pending (s : State) (n : LockerNo) : (s.relatch n).pending = s.pending := by
  unfold State.relatch; split <;> simp
@[simp] theorem State.relatch_cfg (s : State) (n : LockerNo) : (s.relatch n).cfg = s.cfg := by
  unfold State.relatch; split <;> simp
@[simp] theorem State.relatch_running (s : State) (n : LockerNo) : (s.relatch n).running = s.running := by
  unfold State.relatch; split <;> simp

@[simp] theorem State.dropEntry_filing (s : State) (ref : OrderRef) : (s.dropEntry ref).filing = s.filing := by
  simp [State.dropEntry]
@[simp] theorem State.dropEntry_slots (s : State) (ref : OrderRef) : (s.dropEntry ref).slots = s.slots := by
  simp [State.dropEntry]
@[simp] theorem State.dropEntry_hdf (s : State) (ref : OrderRef) : (s.dropEntry ref).hdf = s.hdf := by
  simp [State.dropEntry]
@[simp] theorem State.dropEntry_hbp (s : State) (ref : OrderRef) : (s.dropEntry ref).hbp = s.hbp := by
  simp [State.dropEntry]
@[simp] theorem State.dropEntry_pvt (s : State) (ref : OrderRef) : (s.dropEntry ref).pvt = s.pvt := by
  simp [State.dropEntry]
@[simp] theorem State.dropEntry_fsc (s : State) (ref : OrderRef) : (s.dropEntry ref).fsc = s.fsc := by
  simp [State.dropEntry]
@[simp] theorem State.dropEntry_pnl (s : State) (ref : OrderRef) : (s.dropEntry ref).pnl = s.pnl := by
  simp [State.dropEntry]
@[simp] theorem State.dropEntry_ocl (s : State) (ref : OrderRef) : (s.dropEntry ref).ocl = s.ocl := by
  simp [State.dropEntry]
@[simp] theorem State.dropEntry_svl (s : State) (ref : OrderRef) : (s.dropEntry ref).svl = s.svl := by
  simp [State.dropEntry]
@[simp] theorem State.dropEntry_cfl (s : State) (ref : OrderRef) : (s.dropEntry ref).cfl = s.cfl := by
  simp [State.dropEntry]
@[simp] theorem State.dropEntry_overtaken (s : State) (ref : OrderRef) : (s.dropEntry ref).overtaken = s.overtaken := by
  simp [State.dropEntry]
@[simp] theorem State.dropEntry_pending (s : State) (ref : OrderRef) : (s.dropEntry ref).pending = s.pending := by
  simp [State.dropEntry]
@[simp] theorem State.dropEntry_cfg (s : State) (ref : OrderRef) : (s.dropEntry ref).cfg = s.cfg := by
  simp [State.dropEntry]
@[simp] theorem State.dropEntry_running (s : State) (ref : OrderRef) : (s.dropEntry ref).running = s.running := by
  simp [State.dropEntry]

@[simp] theorem State.freeBooked_filing (s : State) (n : LockerNo) : (s.freeBooked n).filing = s.filing := by
  simp [State.freeBooked]
@[simp] theorem State.freeBooked_slots (s : State) (n : LockerNo) : (s.freeBooked n).slots = s.slots := by
  simp [State.freeBooked]
@[simp] theorem State.freeBooked_hdf (s : State) (n : LockerNo) : (s.freeBooked n).hdf = s.hdf := by
  simp [State.freeBooked]
@[simp] theorem State.freeBooked_hbp (s : State) (n : LockerNo) : (s.freeBooked n).hbp = s.hbp := by
  simp [State.freeBooked]
@[simp] theorem State.freeBooked_pvt (s : State) (n : LockerNo) : (s.freeBooked n).pvt = s.pvt := by
  simp [State.freeBooked]
@[simp] theorem State.freeBooked_fsc (s : State) (n : LockerNo) : (s.freeBooked n).fsc = s.fsc := by
  simp [State.freeBooked]
@[simp] theorem State.freeBooked_bkc (s : State) (n : LockerNo) : (s.freeBooked n).bkc = s.bkc := by
  simp [State.freeBooked]
@[simp] theorem State.freeBooked_pnl (s : State) (n : LockerNo) : (s.freeBooked n).pnl = s.pnl := by
  simp [State.freeBooked]
@[simp] theorem State.freeBooked_ocl (s : State) (n : LockerNo) : (s.freeBooked n).ocl = s.ocl := by
  simp [State.freeBooked]
@[simp] theorem State.freeBooked_svl (s : State) (n : LockerNo) : (s.freeBooked n).svl = s.svl := by
  simp [State.freeBooked]
@[simp] theorem State.freeBooked_cfl (s : State) (n : LockerNo) : (s.freeBooked n).cfl = s.cfl := by
  simp [State.freeBooked]
@[simp] theorem State.freeBooked_overtaken (s : State) (n : LockerNo) : (s.freeBooked n).overtaken = s.overtaken := by
  simp [State.freeBooked]
@[simp] theorem State.freeBooked_pending (s : State) (n : LockerNo) : (s.freeBooked n).pending = s.pending := by
  simp [State.freeBooked]
@[simp] theorem State.freeBooked_cfg (s : State) (n : LockerNo) : (s.freeBooked n).cfg = s.cfg := by
  simp [State.freeBooked]
@[simp] theorem State.freeBooked_running (s : State) (n : LockerNo) : (s.freeBooked n).running = s.running := by
  simp [State.freeBooked]

@[simp] theorem State.openForPickup_filing (s : State) (n : LockerNo) : (s.openForPickup n).filing = s.filing := by
  simp [State.openForPickup]
@[simp] theorem State.openForPickup_slots (s : State) (n : LockerNo) : (s.openForPickup n).slots = s.slots := by
  simp [State.openForPickup]
@[simp] theorem State.openForPickup_hdf (s : State) (n : LockerNo) : (s.openForPickup n).hdf = s.hdf := by
  simp [State.openForPickup]
@[simp] theorem State.openForPickup_hbp (s : State) (n : LockerNo) : (s.openForPickup n).hbp = s.hbp := by
  simp [State.openForPickup]
@[simp] theorem State.openForPickup_pvt (s : State) (n : LockerNo) : (s.openForPickup n).pvt = s.pvt := by
  simp [State.openForPickup]
@[simp] theorem State.openForPickup_fsc (s : State) (n : LockerNo) : (s.openForPickup n).fsc = s.fsc := by
  simp [State.openForPickup]
@[simp] theorem State.openForPickup_bkc (s : State) (n : LockerNo) : (s.openForPickup n).bkc = s.bkc := by
  simp [State.openForPickup]
@[simp] theorem State.openForPickup_ocl (s : State) (n : LockerNo) : (s.openForPickup n).ocl = s.ocl := by
  simp [State.openForPickup]
@[simp] theorem State.openForPickup_svl (s : State) (n : LockerNo) : (s.openForPickup n).svl = s.svl := by
  simp [State.openForPickup]
@[simp] theorem State.openForPickup_cfl (s : State) (n : LockerNo) : (s.openForPickup n).cfl = s.cfl := by
  simp [State.openForPickup]
@[simp] theorem State.openForPickup_overtaken (s : State) (n : LockerNo) : (s.openForPickup n).overtaken = s.overtaken := by
  simp [State.openForPickup]
@[simp] theorem State.openForPickup_pending (s : State) (n : LockerNo) : (s.openForPickup n).pending = s.pending := by
  simp [State.openForPickup]
@[simp] theorem State.openForPickup_cfg (s : State) (n : LockerNo) : (s.openForPickup n).cfg = s.cfg := by
  simp [State.openForPickup]
@[simp] theorem State.openForPickup_running (s : State) (n : LockerNo) : (s.openForPickup n).running = s.running := by
  simp [State.openForPickup]

@[simp] theorem State.breakClaim_filing (s : State) : (s.breakClaim).filing = s.filing := by
  simp [State.breakClaim]
@[simp] theorem State.breakClaim_slots (s : State) : (s.breakClaim).slots = s.slots := by
  simp [State.breakClaim]
@[simp] theorem State.breakClaim_hdf (s : State) : (s.breakClaim).hdf = s.hdf := by
  simp [State.breakClaim]
@[simp] theorem State.breakClaim_hbp (s : State) : (s.breakClaim).hbp = s.hbp := by
  simp [State.breakClaim]
@[simp] theorem State.breakClaim_pvt (s : State) : (s.breakClaim).pvt = s.pvt := by
  simp [State.breakClaim]
@[simp] theorem State.breakClaim_fsc (s : State) : (s.breakClaim).fsc = s.fsc := by
  simp [State.breakClaim]
@[simp] theorem State.breakClaim_bkc (s : State) : (s.breakClaim).bkc = s.bkc := by
  simp [State.breakClaim]
@[simp] theorem State.breakClaim_ocl (s : State) : (s.breakClaim).ocl = s.ocl := by
  simp [State.breakClaim]
@[simp] theorem State.breakClaim_svl (s : State) : (s.breakClaim).svl = s.svl := by
  simp [State.breakClaim]
@[simp] theorem State.breakClaim_cfl (s : State) : (s.breakClaim).cfl = s.cfl := by
  simp [State.breakClaim]
@[simp] theorem State.breakClaim_pending (s : State) : (s.breakClaim).pending = s.pending := by
  simp [State.breakClaim]
@[simp] theorem State.breakClaim_cfg (s : State) : (s.breakClaim).cfg = s.cfg := by
  simp [State.breakClaim]
@[simp] theorem State.breakClaim_running (s : State) : (s.breakClaim).running = s.running := by
  simp [State.breakClaim]

@[simp] theorem State.overtakePanelGap_filing (s : State) : (s.overtakePanelGap).filing = s.filing := by
  simp [State.overtakePanelGap]
@[simp] theorem State.overtakePanelGap_slots (s : State) : (s.overtakePanelGap).slots = s.slots := by
  simp [State.overtakePanelGap]
@[simp] theorem State.overtakePanelGap_hdf (s : State) : (s.overtakePanelGap).hdf = s.hdf := by
  simp [State.overtakePanelGap]
@[simp] theorem State.overtakePanelGap_hbp (s : State) : (s.overtakePanelGap).hbp = s.hbp := by
  simp [State.overtakePanelGap]
@[simp] theorem State.overtakePanelGap_pvt (s : State) : (s.overtakePanelGap).pvt = s.pvt := by
  simp [State.overtakePanelGap]
@[simp] theorem State.overtakePanelGap_fsc (s : State) : (s.overtakePanelGap).fsc = s.fsc := by
  simp [State.overtakePanelGap]
@[simp] theorem State.overtakePanelGap_bkc (s : State) : (s.overtakePanelGap).bkc = s.bkc := by
  simp [State.overtakePanelGap]
@[simp] theorem State.overtakePanelGap_pnl (s : State) : (s.overtakePanelGap).pnl = s.pnl := by
  simp [State.overtakePanelGap]
@[simp] theorem State.overtakePanelGap_ocl (s : State) : (s.overtakePanelGap).ocl = s.ocl := by
  simp [State.overtakePanelGap]
@[simp] theorem State.overtakePanelGap_svl (s : State) : (s.overtakePanelGap).svl = s.svl := by
  simp [State.overtakePanelGap]
@[simp] theorem State.overtakePanelGap_cfl (s : State) : (s.overtakePanelGap).cfl = s.cfl := by
  simp [State.overtakePanelGap]
@[simp] theorem State.overtakePanelGap_pending (s : State) : (s.overtakePanelGap).pending = s.pending := by
  simp [State.overtakePanelGap]
@[simp] theorem State.overtakePanelGap_cfg (s : State) : (s.overtakePanelGap).cfg = s.cfg := by
  simp [State.overtakePanelGap]
@[simp] theorem State.overtakePanelGap_running (s : State) : (s.overtakePanelGap).running = s.running := by
  simp [State.overtakePanelGap]

@[simp] theorem State.endThrottle_filing (s : State) : (s.endThrottle).filing = s.filing := by
  simp [State.endThrottle]
@[simp] theorem State.endThrottle_slots (s : State) : (s.endThrottle).slots = s.slots := by
  simp [State.endThrottle]
@[simp] theorem State.endThrottle_hdf (s : State) : (s.endThrottle).hdf = s.hdf := by
  simp [State.endThrottle]
@[simp] theorem State.endThrottle_hbp (s : State) : (s.endThrottle).hbp = s.hbp := by
  simp [State.endThrottle]
@[simp] theorem State.endThrottle_pvt (s : State) : (s.endThrottle).pvt = s.pvt := by
  simp [State.endThrottle]
@[simp] theorem State.endThrottle_fsc (s : State) : (s.endThrottle).fsc = s.fsc := by
  simp [State.endThrottle]
@[simp] theorem State.endThrottle_bkc (s : State) : (s.endThrottle).bkc = s.bkc := by
  simp [State.endThrottle]
@[simp] theorem State.endThrottle_ocl (s : State) : (s.endThrottle).ocl = s.ocl := by
  simp [State.endThrottle]
@[simp] theorem State.endThrottle_svl (s : State) : (s.endThrottle).svl = s.svl := by
  simp [State.endThrottle]
@[simp] theorem State.endThrottle_cfl (s : State) : (s.endThrottle).cfl = s.cfl := by
  simp [State.endThrottle]
@[simp] theorem State.endThrottle_overtaken (s : State) : (s.endThrottle).overtaken = s.overtaken := by
  simp [State.endThrottle]
@[simp] theorem State.endThrottle_pending (s : State) : (s.endThrottle).pending = s.pending := by
  simp [State.endThrottle]
@[simp] theorem State.endThrottle_cfg (s : State) : (s.endThrottle).cfg = s.cfg := by
  simp [State.endThrottle]
@[simp] theorem State.endThrottle_running (s : State) : (s.endThrottle).running = s.running := by
  simp [State.endThrottle]

end Sys2Proof.Machine
end

