-- ==== Sys2Proof/Laws/Frames/Lockers.lean ====
section
/-! SUPPORT. What the operations of LKT leave unchanged, block by block. -/

namespace Sys2Proof.Machine

@[simp] theorem State.closeLoading_filing (s : State) (n : LockerNo) : (s.closeLoading n).filing = s.filing := by
  unfold State.closeLoading; split <;> simp
@[simp] theorem State.closeLoading_slots (s : State) (n : LockerNo) : (s.closeLoading n).slots = s.slots := by
  unfold State.closeLoading; split <;> simp
@[simp] theorem State.closeLoading_hdf (s : State) (n : LockerNo) : (s.closeLoading n).hdf = s.hdf := by
  unfold State.closeLoading; split <;> simp
@[simp] theorem State.closeLoading_hbp (s : State) (n : LockerNo) : (s.closeLoading n).hbp = s.hbp := by
  unfold State.closeLoading; split <;> simp
@[simp] theorem State.closeLoading_pvt (s : State) (n : LockerNo) : (s.closeLoading n).pvt = s.pvt := by
  unfold State.closeLoading; split <;> simp
@[simp] theorem State.closeLoading_fsc (s : State) (n : LockerNo) : (s.closeLoading n).fsc = s.fsc := by
  unfold State.closeLoading; split <;> simp
@[simp] theorem State.closeLoading_pnl (s : State) (n : LockerNo) : (s.closeLoading n).pnl = s.pnl := by
  unfold State.closeLoading; split <;> simp
@[simp] theorem State.closeLoading_ocl (s : State) (n : LockerNo) : (s.closeLoading n).ocl = s.ocl := by
  unfold State.closeLoading; split <;> simp
@[simp] theorem State.closeLoading_svl (s : State) (n : LockerNo) : (s.closeLoading n).svl = s.svl := by
  unfold State.closeLoading; split <;> simp
@[simp] theorem State.closeLoading_cfl (s : State) (n : LockerNo) : (s.closeLoading n).cfl = s.cfl := by
  unfold State.closeLoading; split <;> simp
@[simp] theorem State.closeLoading_overtaken (s : State) (n : LockerNo) : (s.closeLoading n).overtaken = s.overtaken := by
  unfold State.closeLoading; split <;> simp
@[simp] theorem State.closeLoading_pending (s : State) (n : LockerNo) : (s.closeLoading n).pending = s.pending := by
  unfold State.closeLoading; split <;> simp
@[simp] theorem State.closeLoading_cfg (s : State) (n : LockerNo) : (s.closeLoading n).cfg = s.cfg := by
  unfold State.closeLoading; split <;> simp
@[simp] theorem State.closeLoading_running (s : State) (n : LockerNo) : (s.closeLoading n).running = s.running := by
  unfold State.closeLoading; split <;> simp

@[simp] theorem State.reshut_slots (s : State) (n : LockerNo) : (s.reshut n).slots = s.slots := by
  unfold State.reshut; split <;> simp
@[simp] theorem State.reshut_hdf (s : State) (n : LockerNo) : (s.reshut n).hdf = s.hdf := by
  unfold State.reshut; split <;> simp
@[simp] theorem State.reshut_hbp (s : State) (n : LockerNo) : (s.reshut n).hbp = s.hbp := by
  unfold State.reshut; split <;> simp
@[simp] theorem State.reshut_pvt (s : State) (n : LockerNo) : (s.reshut n).pvt = s.pvt := by
  unfold State.reshut; split <;> simp
@[simp] theorem State.reshut_fsc (s : State) (n : LockerNo) : (s.reshut n).fsc = s.fsc := by
  unfold State.reshut; split <;> simp
@[simp] theorem State.reshut_bkc (s : State) (n : LockerNo) : (s.reshut n).bkc = s.bkc := by
  unfold State.reshut; split <;> simp
@[simp] theorem State.reshut_svl (s : State) (n : LockerNo) : (s.reshut n).svl = s.svl := by
  unfold State.reshut; split <;> simp
@[simp] theorem State.reshut_cfl (s : State) (n : LockerNo) : (s.reshut n).cfl = s.cfl := by
  unfold State.reshut; split <;> simp
@[simp] theorem State.reshut_overtaken (s : State) (n : LockerNo) : (s.reshut n).overtaken = s.overtaken := by
  unfold State.reshut; split <;> simp
@[simp] theorem State.reshut_pending (s : State) (n : LockerNo) : (s.reshut n).pending = s.pending := by
  unfold State.reshut; split <;> simp
@[simp] theorem State.reshut_cfg (s : State) (n : LockerNo) : (s.reshut n).cfg = s.cfg := by
  unfold State.reshut; split <;> simp
@[simp] theorem State.reshut_running (s : State) (n : LockerNo) : (s.reshut n).running = s.running := by
  unfold State.reshut; split <;> simp

@[simp] theorem State.closeOpened_slots (s : State) (n : LockerNo) : (s.closeOpened n).slots = s.slots := by
  unfold State.closeOpened; split <;> simp
@[simp] theorem State.closeOpened_hdf (s : State) (n : LockerNo) : (s.closeOpened n).hdf = s.hdf := by
  unfold State.closeOpened; split <;> simp
@[simp] theorem State.closeOpened_hbp (s : State) (n : LockerNo) : (s.closeOpened n).hbp = s.hbp := by
  unfold State.closeOpened; split <;> simp
@[simp] theorem State.closeOpened_pvt (s : State) (n : LockerNo) : (s.closeOpened n).pvt = s.pvt := by
  unfold State.closeOpened; split <;> simp
@[simp] theorem State.closeOpened_fsc (s : State) (n : LockerNo) : (s.closeOpened n).fsc = s.fsc := by
  unfold State.closeOpened; split <;> simp
@[simp] theorem State.closeOpened_bkc (s : State) (n : LockerNo) : (s.closeOpened n).bkc = s.bkc := by
  unfold State.closeOpened; split <;> simp
@[simp] theorem State.closeOpened_svl (s : State) (n : LockerNo) : (s.closeOpened n).svl = s.svl := by
  unfold State.closeOpened; split <;> simp
@[simp] theorem State.closeOpened_cfl (s : State) (n : LockerNo) : (s.closeOpened n).cfl = s.cfl := by
  unfold State.closeOpened; split <;> simp
@[simp] theorem State.closeOpened_overtaken (s : State) (n : LockerNo) : (s.closeOpened n).overtaken = s.overtaken := by
  unfold State.closeOpened; split <;> simp
@[simp] theorem State.closeOpened_pending (s : State) (n : LockerNo) : (s.closeOpened n).pending = s.pending := by
  unfold State.closeOpened; split <;> simp
@[simp] theorem State.closeOpened_cfg (s : State) (n : LockerNo) : (s.closeOpened n).cfg = s.cfg := by
  unfold State.closeOpened; split <;> simp
@[simp] theorem State.closeOpened_running (s : State) (n : LockerNo) : (s.closeOpened n).running = s.running := by
  unfold State.closeOpened; split <;> simp

@[simp] theorem State.backToLockout_filing (s : State) (n : LockerNo) : (s.backToLockout n).filing = s.filing := by
  simp [State.backToLockout]
@[simp] theorem State.backToLockout_slots (s : State) (n : LockerNo) : (s.backToLockout n).slots = s.slots := by
  simp [State.backToLockout]
@[simp] theorem State.backToLockout_hdf (s : State) (n : LockerNo) : (s.backToLockout n).hdf = s.hdf := by
  simp [State.backToLockout]
@[simp] theorem State.backToLockout_hbp (s : State) (n : LockerNo) : (s.backToLockout n).hbp = s.hbp := by
  simp [State.backToLockout]
@[simp] theorem State.backToLockout_pvt (s : State) (n : LockerNo) : (s.backToLockout n).pvt = s.pvt := by
  simp [State.backToLockout]
@[simp] theorem State.backToLockout_fsc (s : State) (n : LockerNo) : (s.backToLockout n).fsc = s.fsc := by
  simp [State.backToLockout]
@[simp] theorem State.backToLockout_bkc (s : State) (n : LockerNo) : (s.backToLockout n).bkc = s.bkc := by
  simp [State.backToLockout]
@[simp] theorem State.backToLockout_pnl (s : State) (n : LockerNo) : (s.backToLockout n).pnl = s.pnl := by
  simp [State.backToLockout]
@[simp] theorem State.backToLockout_ocl (s : State) (n : LockerNo) : (s.backToLockout n).ocl = s.ocl := by
  simp [State.backToLockout]
@[simp] theorem State.backToLockout_svl (s : State) (n : LockerNo) : (s.backToLockout n).svl = s.svl := by
  simp [State.backToLockout]
@[simp] theorem State.backToLockout_cfl (s : State) (n : LockerNo) : (s.backToLockout n).cfl = s.cfl := by
  simp [State.backToLockout]
@[simp] theorem State.backToLockout_overtaken (s : State) (n : LockerNo) : (s.backToLockout n).overtaken = s.overtaken := by
  simp [State.backToLockout]
@[simp] theorem State.backToLockout_pending (s : State) (n : LockerNo) : (s.backToLockout n).pending = s.pending := by
  simp [State.backToLockout]
@[simp] theorem State.backToLockout_cfg (s : State) (n : LockerNo) : (s.backToLockout n).cfg = s.cfg := by
  simp [State.backToLockout]
@[simp] theorem State.backToLockout_running (s : State) (n : LockerNo) : (s.backToLockout n).running = s.running := by
  simp [State.backToLockout]

@[simp] theorem State.closeClearing_filing (s : State) (n : LockerNo) : (s.closeClearing n).filing = s.filing := by
  unfold State.closeClearing; simp only; split <;> (try split) <;> simp
@[simp] theorem State.closeClearing_slots (s : State) (n : LockerNo) : (s.closeClearing n).slots = s.slots := by
  unfold State.closeClearing; simp only; split <;> (try split) <;> simp
@[simp] theorem State.closeClearing_hdf (s : State) (n : LockerNo) : (s.closeClearing n).hdf = s.hdf := by
  unfold State.closeClearing; simp only; split <;> (try split) <;> simp
@[simp] theorem State.closeClearing_hbp (s : State) (n : LockerNo) : (s.closeClearing n).hbp = s.hbp := by
  unfold State.closeClearing; simp only; split <;> (try split) <;> simp
@[simp] theorem State.closeClearing_pvt (s : State) (n : LockerNo) : (s.closeClearing n).pvt = s.pvt := by
  unfold State.closeClearing; simp only; split <;> (try split) <;> simp
@[simp] theorem State.closeClearing_fsc (s : State) (n : LockerNo) : (s.closeClearing n).fsc = s.fsc := by
  unfold State.closeClearing; simp only; split <;> (try split) <;> simp
@[simp] theorem State.closeClearing_bkc (s : State) (n : LockerNo) : (s.closeClearing n).bkc = s.bkc := by
  unfold State.closeClearing; simp only; split <;> (try split) <;> simp
@[simp] theorem State.closeClearing_pnl (s : State) (n : LockerNo) : (s.closeClearing n).pnl = s.pnl := by
  unfold State.closeClearing; simp only; split <;> (try split) <;> simp
@[simp] theorem State.closeClearing_ocl (s : State) (n : LockerNo) : (s.closeClearing n).ocl = s.ocl := by
  unfold State.closeClearing; simp only; split <;> (try split) <;> simp
@[simp] theorem State.closeClearing_svl (s : State) (n : LockerNo) : (s.closeClearing n).svl = s.svl := by
  unfold State.closeClearing; simp only; split <;> (try split) <;> simp
@[simp] theorem State.closeClearing_cfl (s : State) (n : LockerNo) : (s.closeClearing n).cfl = s.cfl := by
  unfold State.closeClearing; simp only; split <;> (try split) <;> simp
@[simp] theorem State.closeClearing_overtaken (s : State) (n : LockerNo) : (s.closeClearing n).overtaken = s.overtaken := by
  unfold State.closeClearing; simp only; split <;> (try split) <;> simp
@[simp] theorem State.closeClearing_pending (s : State) (n : LockerNo) : (s.closeClearing n).pending = s.pending := by
  unfold State.closeClearing; simp only; split <;> (try split) <;> simp
@[simp] theorem State.closeClearing_cfg (s : State) (n : LockerNo) : (s.closeClearing n).cfg = s.cfg := by
  unfold State.closeClearing; simp only; split <;> (try split) <;> simp
@[simp] theorem State.closeClearing_running (s : State) (n : LockerNo) : (s.closeClearing n).running = s.running := by
  unfold State.closeClearing; simp only; split <;> (try split) <;> simp

@[simp] theorem State.closeForced_slots (s : State) (n : LockerNo) : (s.closeForced n).slots = s.slots := by
  unfold State.closeForced; simp only; split <;> (try split) <;> simp
@[simp] theorem State.closeForced_hdf (s : State) (n : LockerNo) : (s.closeForced n).hdf = s.hdf := by
  unfold State.closeForced; simp only; split <;> (try split) <;> simp
@[simp] theorem State.closeForced_hbp (s : State) (n : LockerNo) : (s.closeForced n).hbp = s.hbp := by
  unfold State.closeForced; simp only; split <;> (try split) <;> simp
@[simp] theorem State.closeForced_pvt (s : State) (n : LockerNo) : (s.closeForced n).pvt = s.pvt := by
  unfold State.closeForced; simp only; split <;> (try split) <;> simp
@[simp] theorem State.closeForced_fsc (s : State) (n : LockerNo) : (s.closeForced n).fsc = s.fsc := by
  unfold State.closeForced; simp only; split <;> (try split) <;> simp
@[simp] theorem State.closeForced_bkc (s : State) (n : LockerNo) : (s.closeForced n).bkc = s.bkc := by
  unfold State.closeForced; simp only; split <;> (try split) <;> simp
@[simp] theorem State.closeForced_svl (s : State) (n : LockerNo) : (s.closeForced n).svl = s.svl := by
  unfold State.closeForced; simp only; split <;> (try split) <;> simp
@[simp] theorem State.closeForced_cfl (s : State) (n : LockerNo) : (s.closeForced n).cfl = s.cfl := by
  unfold State.closeForced; simp only; split <;> (try split) <;> simp
@[simp] theorem State.closeForced_overtaken (s : State) (n : LockerNo) : (s.closeForced n).overtaken = s.overtaken := by
  unfold State.closeForced; simp only; split <;> (try split) <;> simp
@[simp] theorem State.closeForced_pending (s : State) (n : LockerNo) : (s.closeForced n).pending = s.pending := by
  unfold State.closeForced; simp only; split <;> (try split) <;> simp
@[simp] theorem State.closeForced_cfg (s : State) (n : LockerNo) : (s.closeForced n).cfg = s.cfg := by
  unfold State.closeForced; simp only; split <;> (try split) <;> simp
@[simp] theorem State.closeForced_running (s : State) (n : LockerNo) : (s.closeForced n).running = s.running := by
  unfold State.closeForced; simp only; split <;> (try split) <;> simp

@[simp] theorem State.doorOpened_slots (s : State) (n : LockerNo) : (s.doorOpened n).slots = s.slots := by
  unfold State.doorOpened; simp only; split <;> simp
@[simp] theorem State.doorOpened_hdf (s : State) (n : LockerNo) : (s.doorOpened n).hdf = s.hdf := by
  unfold State.doorOpened; simp only; split <;> simp
@[simp] theorem State.doorOpened_hbp (s : State) (n : LockerNo) : (s.doorOpened n).hbp = s.hbp := by
  unfold State.doorOpened; simp only; split <;> simp
@[simp] theorem State.doorOpened_pvt (s : State) (n : LockerNo) : (s.doorOpened n).pvt = s.pvt := by
  unfold State.doorOpened; simp only; split <;> simp
@[simp] theorem State.doorOpened_fsc (s : State) (n : LockerNo) : (s.doorOpened n).fsc = s.fsc := by
  unfold State.doorOpened; simp only; split <;> simp
@[simp] theorem State.doorOpened_bkc (s : State) (n : LockerNo) : (s.doorOpened n).bkc = s.bkc := by
  unfold State.doorOpened; simp only; split <;> simp
@[simp] theorem State.doorOpened_svl (s : State) (n : LockerNo) : (s.doorOpened n).svl = s.svl := by
  unfold State.doorOpened; simp only; split <;> simp
@[simp] theorem State.doorOpened_cfl (s : State) (n : LockerNo) : (s.doorOpened n).cfl = s.cfl := by
  unfold State.doorOpened; simp only; split <;> simp
@[simp] theorem State.doorOpened_overtaken (s : State) (n : LockerNo) : (s.doorOpened n).overtaken = s.overtaken := by
  unfold State.doorOpened; simp only; split <;> simp
@[simp] theorem State.doorOpened_pending (s : State) (n : LockerNo) : (s.doorOpened n).pending = s.pending := by
  unfold State.doorOpened; simp only; split <;> simp
@[simp] theorem State.doorOpened_cfg (s : State) (n : LockerNo) : (s.doorOpened n).cfg = s.cfg := by
  unfold State.doorOpened; simp only; split <;> simp
@[simp] theorem State.doorOpened_running (s : State) (n : LockerNo) : (s.doorOpened n).running = s.running := by
  unfold State.doorOpened; simp only; split <;> simp

@[simp] theorem State.doorClosed_slots (s : State) (n : LockerNo) : (s.doorClosed n).slots = s.slots := by
  unfold State.doorClosed; simp only; split <;> (try split) <;> simp
@[simp] theorem State.doorClosed_hdf (s : State) (n : LockerNo) : (s.doorClosed n).hdf = s.hdf := by
  unfold State.doorClosed; simp only; split <;> (try split) <;> simp
@[simp] theorem State.doorClosed_hbp (s : State) (n : LockerNo) : (s.doorClosed n).hbp = s.hbp := by
  unfold State.doorClosed; simp only; split <;> (try split) <;> simp
@[simp] theorem State.doorClosed_pvt (s : State) (n : LockerNo) : (s.doorClosed n).pvt = s.pvt := by
  unfold State.doorClosed; simp only; split <;> (try split) <;> simp
@[simp] theorem State.doorClosed_fsc (s : State) (n : LockerNo) : (s.doorClosed n).fsc = s.fsc := by
  unfold State.doorClosed; simp only; split <;> (try split) <;> simp
@[simp] theorem State.doorClosed_svl (s : State) (n : LockerNo) : (s.doorClosed n).svl = s.svl := by
  unfold State.doorClosed; simp only; split <;> (try split) <;> simp
@[simp] theorem State.doorClosed_cfl (s : State) (n : LockerNo) : (s.doorClosed n).cfl = s.cfl := by
  unfold State.doorClosed; simp only; split <;> (try split) <;> simp
@[simp] theorem State.doorClosed_overtaken (s : State) (n : LockerNo) : (s.doorClosed n).overtaken = s.overtaken := by
  unfold State.doorClosed; simp only; split <;> (try split) <;> simp
@[simp] theorem State.doorClosed_pending (s : State) (n : LockerNo) : (s.doorClosed n).pending = s.pending := by
  unfold State.doorClosed; simp only; split <;> (try split) <;> simp
@[simp] theorem State.doorClosed_cfg (s : State) (n : LockerNo) : (s.doorClosed n).cfg = s.cfg := by
  unfold State.doorClosed; simp only; split <;> (try split) <;> simp
@[simp] theorem State.doorClosed_running (s : State) (n : LockerNo) : (s.doorClosed n).running = s.running := by
  unfold State.doorClosed; simp only; split <;> (try split) <;> simp

@[simp] theorem State.unlatchExpired_slots (s : State) (n : LockerNo) : (s.unlatchExpired n).slots = s.slots := by
  unfold State.unlatchExpired; simp only; split <;> simp
@[simp] theorem State.unlatchExpired_hdf (s : State) (n : LockerNo) : (s.unlatchExpired n).hdf = s.hdf := by
  unfold State.unlatchExpired; simp only; split <;> simp
@[simp] theorem State.unlatchExpired_hbp (s : State) (n : LockerNo) : (s.unlatchExpired n).hbp = s.hbp := by
  unfold State.unlatchExpired; simp only; split <;> simp
@[simp] theorem State.unlatchExpired_pvt (s : State) (n : LockerNo) : (s.unlatchExpired n).pvt = s.pvt := by
  unfold State.unlatchExpired; simp only; split <;> simp
@[simp] theorem State.unlatchExpired_fsc (s : State) (n : LockerNo) : (s.unlatchExpired n).fsc = s.fsc := by
  unfold State.unlatchExpired; simp only; split <;> simp
@[simp] theorem State.unlatchExpired_svl (s : State) (n : LockerNo) : (s.unlatchExpired n).svl = s.svl := by
  unfold State.unlatchExpired; simp only; split <;> simp
@[simp] theorem State.unlatchExpired_cfl (s : State) (n : LockerNo) : (s.unlatchExpired n).cfl = s.cfl := by
  unfold State.unlatchExpired; simp only; split <;> simp
@[simp] theorem State.unlatchExpired_overtaken (s : State) (n : LockerNo) : (s.unlatchExpired n).overtaken = s.overtaken := by
  unfold State.unlatchExpired; simp only; split <;> simp
@[simp] theorem State.unlatchExpired_pending (s : State) (n : LockerNo) : (s.unlatchExpired n).pending = s.pending := by
  unfold State.unlatchExpired; simp only; split <;> simp
@[simp] theorem State.unlatchExpired_cfg (s : State) (n : LockerNo) : (s.unlatchExpired n).cfg = s.cfg := by
  unfold State.unlatchExpired; simp only; split <;> simp
@[simp] theorem State.unlatchExpired_running (s : State) (n : LockerNo) : (s.unlatchExpired n).running = s.running := by
  unfold State.unlatchExpired; simp only; split <;> simp

@[simp] theorem State.ajarExpired_filing (s : State) (n : LockerNo) : (s.ajarExpired n).filing = s.filing := by
  simp [State.ajarExpired]
@[simp] theorem State.ajarExpired_slots (s : State) (n : LockerNo) : (s.ajarExpired n).slots = s.slots := by
  simp [State.ajarExpired]
@[simp] theorem State.ajarExpired_hdf (s : State) (n : LockerNo) : (s.ajarExpired n).hdf = s.hdf := by
  simp [State.ajarExpired]
@[simp] theorem State.ajarExpired_hbp (s : State) (n : LockerNo) : (s.ajarExpired n).hbp = s.hbp := by
  simp [State.ajarExpired]
@[simp] theorem State.ajarExpired_pvt (s : State) (n : LockerNo) : (s.ajarExpired n).pvt = s.pvt := by
  simp [State.ajarExpired]
@[simp] theorem State.ajarExpired_fsc (s : State) (n : LockerNo) : (s.ajarExpired n).fsc = s.fsc := by
  simp [State.ajarExpired]
@[simp] theorem State.ajarExpired_bkc (s : State) (n : LockerNo) : (s.ajarExpired n).bkc = s.bkc := by
  simp [State.ajarExpired]
@[simp] theorem State.ajarExpired_pnl (s : State) (n : LockerNo) : (s.ajarExpired n).pnl = s.pnl := by
  simp [State.ajarExpired]
@[simp] theorem State.ajarExpired_ocl (s : State) (n : LockerNo) : (s.ajarExpired n).ocl = s.ocl := by
  simp [State.ajarExpired]
@[simp] theorem State.ajarExpired_svl (s : State) (n : LockerNo) : (s.ajarExpired n).svl = s.svl := by
  simp [State.ajarExpired]
@[simp] theorem State.ajarExpired_cfl (s : State) (n : LockerNo) : (s.ajarExpired n).cfl = s.cfl := by
  simp [State.ajarExpired]
@[simp] theorem State.ajarExpired_overtaken (s : State) (n : LockerNo) : (s.ajarExpired n).overtaken = s.overtaken := by
  simp [State.ajarExpired]
@[simp] theorem State.ajarExpired_pending (s : State) (n : LockerNo) : (s.ajarExpired n).pending = s.pending := by
  simp [State.ajarExpired]
@[simp] theorem State.ajarExpired_cfg (s : State) (n : LockerNo) : (s.ajarExpired n).cfg = s.cfg := by
  simp [State.ajarExpired]
@[simp] theorem State.ajarExpired_running (s : State) (n : LockerNo) : (s.ajarExpired n).running = s.running := by
  simp [State.ajarExpired]

end Sys2Proof.Machine
end

