-- ==== Sys2Proof/Laws/Frames/Scan.lean ====
section
/-! SUPPORT. What the operations of TSU leave unchanged, block by block. -/

namespace Sys2Proof.Machine

@[simp] theorem State.raise_slots (s : State) (n : LockerNo) (c : ScanCause) : (s.raise n c).slots = s.slots := by
  unfold State.raise; simp only; split <;> (try split) <;> simp
@[simp] theorem State.raise_hdf (s : State) (n : LockerNo) (c : ScanCause) : (s.raise n c).hdf = s.hdf := by
  unfold State.raise; simp only; split <;> (try split) <;> simp
@[simp] theorem State.raise_hbp (s : State) (n : LockerNo) (c : ScanCause) : (s.raise n c).hbp = s.hbp := by
  unfold State.raise; simp only; split <;> (try split) <;> simp
@[simp] theorem State.raise_pvt (s : State) (n : LockerNo) (c : ScanCause) : (s.raise n c).pvt = s.pvt := by
  unfold State.raise; simp only; split <;> (try split) <;> simp
@[simp] theorem State.raise_fsc (s : State) (n : LockerNo) (c : ScanCause) : (s.raise n c).fsc = s.fsc := by
  unfold State.raise; simp only; split <;> (try split) <;> simp
@[simp] theorem State.raise_bkc (s : State) (n : LockerNo) (c : ScanCause) : (s.raise n c).bkc = s.bkc := by
  unfold State.raise; simp only; split <;> (try split) <;> simp
@[simp] theorem State.raise_svl (s : State) (n : LockerNo) (c : ScanCause) : (s.raise n c).svl = s.svl := by
  unfold State.raise; simp only; split <;> (try split) <;> simp
@[simp] theorem State.raise_cfl (s : State) (n : LockerNo) (c : ScanCause) : (s.raise n c).cfl = s.cfl := by
  unfold State.raise; simp only; split <;> (try split) <;> simp
@[simp] theorem State.raise_overtaken (s : State) (n : LockerNo) (c : ScanCause) : (s.raise n c).overtaken = s.overtaken := by
  unfold State.raise; simp only; split <;> (try split) <;> simp
@[simp] theorem State.raise_pending (s : State) (n : LockerNo) (c : ScanCause) : (s.raise n c).pending = s.pending := by
  unfold State.raise; simp only; split <;> (try split) <;> simp
@[simp] theorem State.raise_cfg (s : State) (n : LockerNo) (c : ScanCause) : (s.raise n c).cfg = s.cfg := by
  unfold State.raise; simp only; split <;> (try split) <;> simp
@[simp] theorem State.raise_running (s : State) (n : LockerNo) (c : ScanCause) : (s.raise n c).running = s.running := by
  unfold State.raise; simp only; split <;> (try split) <;> simp

@[simp] theorem State.reportReading_filing (s : State) (n : LockerNo) : (s.reportReading n).filing = s.filing := by
  unfold State.reportReading; split <;> simp
@[simp] theorem State.reportReading_slots (s : State) (n : LockerNo) : (s.reportReading n).slots = s.slots := by
  unfold State.reportReading; split <;> simp
@[simp] theorem State.reportReading_hdf (s : State) (n : LockerNo) : (s.reportReading n).hdf = s.hdf := by
  unfold State.reportReading; split <;> simp
@[simp] theorem State.reportReading_hbp (s : State) (n : LockerNo) : (s.reportReading n).hbp = s.hbp := by
  unfold State.reportReading; split <;> simp
@[simp] theorem State.reportReading_pvt (s : State) (n : LockerNo) : (s.reportReading n).pvt = s.pvt := by
  unfold State.reportReading; split <;> simp
@[simp] theorem State.reportReading_fsc (s : State) (n : LockerNo) : (s.reportReading n).fsc = s.fsc := by
  unfold State.reportReading; split <;> simp
@[simp] theorem State.reportReading_bkc (s : State) (n : LockerNo) : (s.reportReading n).bkc = s.bkc := by
  unfold State.reportReading; split <;> simp
@[simp] theorem State.reportReading_pnl (s : State) (n : LockerNo) : (s.reportReading n).pnl = s.pnl := by
  unfold State.reportReading; split <;> simp
@[simp] theorem State.reportReading_ocl (s : State) (n : LockerNo) : (s.reportReading n).ocl = s.ocl := by
  unfold State.reportReading; split <;> simp
@[simp] theorem State.reportReading_svl (s : State) (n : LockerNo) : (s.reportReading n).svl = s.svl := by
  unfold State.reportReading; split <;> simp
@[simp] theorem State.reportReading_cfl (s : State) (n : LockerNo) : (s.reportReading n).cfl = s.cfl := by
  unfold State.reportReading; split <;> simp
@[simp] theorem State.reportReading_overtaken (s : State) (n : LockerNo) : (s.reportReading n).overtaken = s.overtaken := by
  unfold State.reportReading; split <;> simp
@[simp] theorem State.reportReading_pending (s : State) (n : LockerNo) : (s.reportReading n).pending = s.pending := by
  unfold State.reportReading; split <;> simp
@[simp] theorem State.reportReading_cfg (s : State) (n : LockerNo) : (s.reportReading n).cfg = s.cfg := by
  unfold State.reportReading; split <;> simp
@[simp] theorem State.reportReading_running (s : State) (n : LockerNo) : (s.reportReading n).running = s.running := by
  unfold State.reportReading; split <;> simp

@[simp] theorem State.superviseScan_slots (s : State) (n : LockerNo) : (s.superviseScan n).slots = s.slots := by
  unfold State.superviseScan; simp only; split <;> simp
@[simp] theorem State.superviseScan_hdf (s : State) (n : LockerNo) : (s.superviseScan n).hdf = s.hdf := by
  unfold State.superviseScan; simp only; split <;> simp
@[simp] theorem State.superviseScan_hbp (s : State) (n : LockerNo) : (s.superviseScan n).hbp = s.hbp := by
  unfold State.superviseScan; simp only; split <;> simp
@[simp] theorem State.superviseScan_pvt (s : State) (n : LockerNo) : (s.superviseScan n).pvt = s.pvt := by
  unfold State.superviseScan; simp only; split <;> simp
@[simp] theorem State.superviseScan_fsc (s : State) (n : LockerNo) : (s.superviseScan n).fsc = s.fsc := by
  unfold State.superviseScan; simp only; split <;> simp
@[simp] theorem State.superviseScan_bkc (s : State) (n : LockerNo) : (s.superviseScan n).bkc = s.bkc := by
  unfold State.superviseScan; simp only; split <;> simp
@[simp] theorem State.superviseScan_svl (s : State) (n : LockerNo) : (s.superviseScan n).svl = s.svl := by
  unfold State.superviseScan; simp only; split <;> simp
@[simp] theorem State.superviseScan_cfl (s : State) (n : LockerNo) : (s.superviseScan n).cfl = s.cfl := by
  unfold State.superviseScan; simp only; split <;> simp
@[simp] theorem State.superviseScan_overtaken (s : State) (n : LockerNo) : (s.superviseScan n).overtaken = s.overtaken := by
  unfold State.superviseScan; simp only; split <;> simp
@[simp] theorem State.superviseScan_pending (s : State) (n : LockerNo) : (s.superviseScan n).pending = s.pending := by
  unfold State.superviseScan; simp only; split <;> simp
@[simp] theorem State.superviseScan_cfg (s : State) (n : LockerNo) : (s.superviseScan n).cfg = s.cfg := by
  unfold State.superviseScan; simp only; split <;> simp
@[simp] theorem State.superviseScan_running (s : State) (n : LockerNo) : (s.superviseScan n).running = s.running := by
  unfold State.superviseScan; simp only; split <;> simp

@[simp] theorem State.scan_slots (s : State) (n : LockerNo) (x : Reading) : (s.scan n x).slots = s.slots := by
  unfold State.scan; simp only; split <;> simp
@[simp] theorem State.scan_hdf (s : State) (n : LockerNo) (x : Reading) : (s.scan n x).hdf = s.hdf := by
  unfold State.scan; simp only; split <;> simp
@[simp] theorem State.scan_hbp (s : State) (n : LockerNo) (x : Reading) : (s.scan n x).hbp = s.hbp := by
  unfold State.scan; simp only; split <;> simp
@[simp] theorem State.scan_pvt (s : State) (n : LockerNo) (x : Reading) : (s.scan n x).pvt = s.pvt := by
  unfold State.scan; simp only; split <;> simp
@[simp] theorem State.scan_fsc (s : State) (n : LockerNo) (x : Reading) : (s.scan n x).fsc = s.fsc := by
  unfold State.scan; simp only; split <;> simp
@[simp] theorem State.scan_bkc (s : State) (n : LockerNo) (x : Reading) : (s.scan n x).bkc = s.bkc := by
  unfold State.scan; simp only; split <;> simp
@[simp] theorem State.scan_svl (s : State) (n : LockerNo) (x : Reading) : (s.scan n x).svl = s.svl := by
  unfold State.scan; simp only; split <;> simp
@[simp] theorem State.scan_cfl (s : State) (n : LockerNo) (x : Reading) : (s.scan n x).cfl = s.cfl := by
  unfold State.scan; simp only; split <;> simp
@[simp] theorem State.scan_overtaken (s : State) (n : LockerNo) (x : Reading) : (s.scan n x).overtaken = s.overtaken := by
  unfold State.scan; simp only; split <;> simp
@[simp] theorem State.scan_pending (s : State) (n : LockerNo) (x : Reading) : (s.scan n x).pending = s.pending := by
  unfold State.scan; simp only; split <;> simp
@[simp] theorem State.scan_cfg (s : State) (n : LockerNo) (x : Reading) : (s.scan n x).cfg = s.cfg := by
  unfold State.scan; simp only; split <;> simp
@[simp] theorem State.scan_running (s : State) (n : LockerNo) (x : Reading) : (s.scan n x).running = s.running := by
  unfold State.scan; simp only; split <;> simp

end Sys2Proof.Machine
end

