-- ==== Sys2Proof/Laws/Frames/Window.lean ====
section
/-! SUPPORT. What the operations of HDF, FSC and HBP leave unchanged, block by block. -/

namespace Sys2Proof.Machine

@[simp] theorem State.share_filing (s : State) (own : Demand) : (s.share own).filing = s.filing := by
  simp [State.share]
@[simp] theorem State.share_slots (s : State) (own : Demand) : (s.share own).slots = s.slots := by
  simp [State.share]
@[simp] theorem State.share_hdf (s : State) (own : Demand) : (s.share own).hdf = s.hdf := by
  simp [State.share]
@[simp] theorem State.share_hbp (s : State) (own : Demand) : (s.share own).hbp = s.hbp := by
  simp [State.share]
@[simp] theorem State.share_pvt (s : State) (own : Demand) : (s.share own).pvt = s.pvt := by
  simp [State.share]
@[simp] theorem State.share_bkc (s : State) (own : Demand) : (s.share own).bkc = s.bkc := by
  simp [State.share]
@[simp] theorem State.share_pnl (s : State) (own : Demand) : (s.share own).pnl = s.pnl := by
  simp [State.share]
@[simp] theorem State.share_ocl (s : State) (own : Demand) : (s.share own).ocl = s.ocl := by
  simp [State.share]
@[simp] theorem State.share_svl (s : State) (own : Demand) : (s.share own).svl = s.svl := by
  simp [State.share]
@[simp] theorem State.share_cfl (s : State) (own : Demand) : (s.share own).cfl = s.cfl := by
  simp [State.share]
@[simp] theorem State.share_overtaken (s : State) (own : Demand) : (s.share own).overtaken = s.overtaken := by
  simp [State.share]
@[simp] theorem State.share_pending (s : State) (own : Demand) : (s.share own).pending = s.pending := by
  simp [State.share]
@[simp] theorem State.share_cfg (s : State) (own : Demand) : (s.share own).cfg = s.cfg := by
  simp [State.share]
@[simp] theorem State.share_running (s : State) (own : Demand) : (s.share own).running = s.running := by
  simp [State.share]

@[simp] theorem State.checkFrame_filing (s : State) : (s.checkFrame).filing = s.filing := by
  unfold State.checkFrame; split <;> simp
@[simp] theorem State.checkFrame_slots (s : State) : (s.checkFrame).slots = s.slots := by
  unfold State.checkFrame; split <;> simp
@[simp] theorem State.checkFrame_hdf (s : State) : (s.checkFrame).hdf = s.hdf := by
  unfold State.checkFrame; split <;> simp
@[simp] theorem State.checkFrame_fsc (s : State) : (s.checkFrame).fsc = s.fsc := by
  unfold State.checkFrame; split <;> simp
@[simp] theorem State.checkFrame_bkc (s : State) : (s.checkFrame).bkc = s.bkc := by
  unfold State.checkFrame; split <;> simp
@[simp] theorem State.checkFrame_pnl (s : State) : (s.checkFrame).pnl = s.pnl := by
  unfold State.checkFrame; split <;> simp
@[simp] theorem State.checkFrame_ocl (s : State) : (s.checkFrame).ocl = s.ocl := by
  unfold State.checkFrame; split <;> simp
@[simp] theorem State.checkFrame_svl (s : State) : (s.checkFrame).svl = s.svl := by
  unfold State.checkFrame; split <;> simp
@[simp] theorem State.checkFrame_cfl (s : State) : (s.checkFrame).cfl = s.cfl := by
  unfold State.checkFrame; split <;> simp
@[simp] theorem State.checkFrame_overtaken (s : State) : (s.checkFrame).overtaken = s.overtaken := by
  unfold State.checkFrame; split <;> simp
@[simp] theorem State.checkFrame_pending (s : State) : (s.checkFrame).pending = s.pending := by
  unfold State.checkFrame; split <;> simp
@[simp] theorem State.checkFrame_cfg (s : State) : (s.checkFrame).cfg = s.cfg := by
  unfold State.checkFrame; split <;> simp

@[simp] theorem State.frameEnd_filing (s : State) : (s.frameEnd).filing = s.filing := by
  unfold State.frameEnd; simp only; split <;> (try split) <;> (try split) <;> simp
@[simp] theorem State.frameEnd_slots (s : State) : (s.frameEnd).slots = s.slots := by
  unfold State.frameEnd; simp only; split <;> (try split) <;> (try split) <;> simp
@[simp] theorem State.frameEnd_hdf (s : State) : (s.frameEnd).hdf = s.hdf := by
  unfold State.frameEnd; simp only; split <;> (try split) <;> (try split) <;> simp
@[simp] theorem State.frameEnd_fsc (s : State) : (s.frameEnd).fsc = s.fsc := by
  unfold State.frameEnd; simp only; split <;> (try split) <;> (try split) <;> simp
@[simp] theorem State.frameEnd_bkc (s : State) : (s.frameEnd).bkc = s.bkc := by
  unfold State.frameEnd; simp only; split <;> (try split) <;> (try split) <;> simp
@[simp] theorem State.frameEnd_pnl (s : State) : (s.frameEnd).pnl = s.pnl := by
  unfold State.frameEnd; simp only; split <;> (try split) <;> (try split) <;> simp
@[simp] theorem State.frameEnd_ocl (s : State) : (s.frameEnd).ocl = s.ocl := by
  unfold State.frameEnd; simp only; split <;> (try split) <;> (try split) <;> simp
@[simp] theorem State.frameEnd_svl (s : State) : (s.frameEnd).svl = s.svl := by
  unfold State.frameEnd; simp only; split <;> (try split) <;> (try split) <;> simp
@[simp] theorem State.frameEnd_cfl (s : State) : (s.frameEnd).cfl = s.cfl := by
  unfold State.frameEnd; simp only; split <;> (try split) <;> (try split) <;> simp
@[simp] theorem State.frameEnd_overtaken (s : State) : (s.frameEnd).overtaken = s.overtaken := by
  unfold State.frameEnd; simp only; split <;> (try split) <;> (try split) <;> simp
@[simp] theorem State.frameEnd_pending (s : State) : (s.frameEnd).pending = s.pending := by
  unfold State.frameEnd; simp only; split <;> (try split) <;> (try split) <;> simp
@[simp] theorem State.frameEnd_cfg (s : State) : (s.frameEnd).cfg = s.cfg := by
  unfold State.frameEnd; simp only; split <;> (try split) <;> (try split) <;> simp

@[simp] theorem State.setCalls_filing (s : State) : (s.setCalls).filing = s.filing := by
  simp [State.setCalls]
@[simp] theorem State.setCalls_slots (s : State) : (s.setCalls).slots = s.slots := by
  simp [State.setCalls]
@[simp] theorem State.setCalls_hdf (s : State) : (s.setCalls).hdf = s.hdf := by
  simp [State.setCalls]
@[simp] theorem State.setCalls_hbp (s : State) : (s.setCalls).hbp = s.hbp := by
  simp [State.setCalls]
@[simp] theorem State.setCalls_pvt (s : State) : (s.setCalls).pvt = s.pvt := by
  simp [State.setCalls]
@[simp] theorem State.setCalls_fsc (s : State) : (s.setCalls).fsc = s.fsc := by
  simp [State.setCalls]
@[simp] theorem State.setCalls_bkc (s : State) : (s.setCalls).bkc = s.bkc := by
  simp [State.setCalls]
@[simp] theorem State.setCalls_pnl (s : State) : (s.setCalls).pnl = s.pnl := by
  simp [State.setCalls]
@[simp] theorem State.setCalls_ocl (s : State) : (s.setCalls).ocl = s.ocl := by
  simp [State.setCalls]
@[simp] theorem State.setCalls_svl (s : State) : (s.setCalls).svl = s.svl := by
  simp [State.setCalls]
@[simp] theorem State.setCalls_cfl (s : State) : (s.setCalls).cfl = s.cfl := by
  simp [State.setCalls]
@[simp] theorem State.setCalls_overtaken (s : State) : (s.setCalls).overtaken = s.overtaken := by
  simp [State.setCalls]
@[simp] theorem State.setCalls_pending (s : State) : (s.setCalls).pending = s.pending := by
  simp [State.setCalls]
@[simp] theorem State.setCalls_cfg (s : State) : (s.setCalls).cfg = s.cfg := by
  simp [State.setCalls]
@[simp] theorem State.setCalls_running (s : State) : (s.setCalls).running = s.running := by
  simp [State.setCalls]

@[simp] theorem State.enterSlot_filing (s : State) (j : Fin 16) : (s.enterSlot j).filing = s.filing := by
  simp [State.enterSlot]
@[simp] theorem State.enterSlot_slots (s : State) (j : Fin 16) : (s.enterSlot j).slots = s.slots := by
  simp [State.enterSlot]
@[simp] theorem State.enterSlot_hbp (s : State) (j : Fin 16) : (s.enterSlot j).hbp = s.hbp := by
  simp [State.enterSlot]
@[simp] theorem State.enterSlot_pvt (s : State) (j : Fin 16) : (s.enterSlot j).pvt = s.pvt := by
  simp [State.enterSlot]
@[simp] theorem State.enterSlot_fsc (s : State) (j : Fin 16) : (s.enterSlot j).fsc = s.fsc := by
  simp [State.enterSlot]
@[simp] theorem State.enterSlot_bkc (s : State) (j : Fin 16) : (s.enterSlot j).bkc = s.bkc := by
  simp [State.enterSlot]
@[simp] theorem State.enterSlot_pnl (s : State) (j : Fin 16) : (s.enterSlot j).pnl = s.pnl := by
  simp [State.enterSlot]
@[simp] theorem State.enterSlot_ocl (s : State) (j : Fin 16) : (s.enterSlot j).ocl = s.ocl := by
  simp [State.enterSlot]
@[simp] theorem State.enterSlot_svl (s : State) (j : Fin 16) : (s.enterSlot j).svl = s.svl := by
  simp [State.enterSlot]
@[simp] theorem State.enterSlot_cfl (s : State) (j : Fin 16) : (s.enterSlot j).cfl = s.cfl := by
  simp [State.enterSlot]
@[simp] theorem State.enterSlot_overtaken (s : State) (j : Fin 16) : (s.enterSlot j).overtaken = s.overtaken := by
  simp [State.enterSlot]
@[simp] theorem State.enterSlot_pending (s : State) (j : Fin 16) : (s.enterSlot j).pending = s.pending := by
  simp [State.enterSlot]
@[simp] theorem State.enterSlot_cfg (s : State) (j : Fin 16) : (s.enterSlot j).cfg = s.cfg := by
  simp [State.enterSlot]
@[simp] theorem State.enterSlot_running (s : State) (j : Fin 16) : (s.enterSlot j).running = s.running := by
  simp [State.enterSlot]

@[simp] theorem State.fillAndPack_filing (s : State) : (s.fillAndPack).filing = s.filing := by
  simp [State.fillAndPack]
@[simp] theorem State.fillAndPack_slots (s : State) : (s.fillAndPack).slots = s.slots := by
  simp [State.fillAndPack]
@[simp] theorem State.fillAndPack_hbp (s : State) : (s.fillAndPack).hbp = s.hbp := by
  simp [State.fillAndPack]
@[simp] theorem State.fillAndPack_pvt (s : State) : (s.fillAndPack).pvt = s.pvt := by
  simp [State.fillAndPack]
@[simp] theorem State.fillAndPack_fsc (s : State) : (s.fillAndPack).fsc = s.fsc := by
  simp [State.fillAndPack]
@[simp] theorem State.fillAndPack_bkc (s : State) : (s.fillAndPack).bkc = s.bkc := by
  simp [State.fillAndPack]
@[simp] theorem State.fillAndPack_pnl (s : State) : (s.fillAndPack).pnl = s.pnl := by
  simp [State.fillAndPack]
@[simp] theorem State.fillAndPack_ocl (s : State) : (s.fillAndPack).ocl = s.ocl := by
  simp [State.fillAndPack]
@[simp] theorem State.fillAndPack_svl (s : State) : (s.fillAndPack).svl = s.svl := by
  simp [State.fillAndPack]
@[simp] theorem State.fillAndPack_cfl (s : State) : (s.fillAndPack).cfl = s.cfl := by
  simp [State.fillAndPack]
@[simp] theorem State.fillAndPack_overtaken (s : State) : (s.fillAndPack).overtaken = s.overtaken := by
  simp [State.fillAndPack]
@[simp] theorem State.fillAndPack_pending (s : State) : (s.fillAndPack).pending = s.pending := by
  simp [State.fillAndPack]
@[simp] theorem State.fillAndPack_cfg (s : State) : (s.fillAndPack).cfg = s.cfg := by
  simp [State.fillAndPack]
@[simp] theorem State.fillAndPack_running (s : State) : (s.fillAndPack).running = s.running := by
  simp [State.fillAndPack]

@[simp] theorem State.restartWindow_filing (s : State) : (s.restartWindow).filing = s.filing := by
  simp [State.restartWindow]
@[simp] theorem State.restartWindow_slots (s : State) : (s.restartWindow).slots = s.slots := by
  simp [State.restartWindow]
@[simp] theorem State.restartWindow_hbp (s : State) : (s.restartWindow).hbp = s.hbp := by
  simp [State.restartWindow]
@[simp] theorem State.restartWindow_pvt (s : State) : (s.restartWindow).pvt = s.pvt := by
  simp [State.restartWindow]
@[simp] theorem State.restartWindow_fsc (s : State) : (s.restartWindow).fsc = s.fsc := by
  simp [State.restartWindow]
@[simp] theorem State.restartWindow_bkc (s : State) : (s.restartWindow).bkc = s.bkc := by
  simp [State.restartWindow]
@[simp] theorem State.restartWindow_pnl (s : State) : (s.restartWindow).pnl = s.pnl := by
  simp [State.restartWindow]
@[simp] theorem State.restartWindow_ocl (s : State) : (s.restartWindow).ocl = s.ocl := by
  simp [State.restartWindow]
@[simp] theorem State.restartWindow_svl (s : State) : (s.restartWindow).svl = s.svl := by
  simp [State.restartWindow]
@[simp] theorem State.restartWindow_cfl (s : State) : (s.restartWindow).cfl = s.cfl := by
  simp [State.restartWindow]
@[simp] theorem State.restartWindow_overtaken (s : State) : (s.restartWindow).overtaken = s.overtaken := by
  simp [State.restartWindow]
@[simp] theorem State.restartWindow_pending (s : State) : (s.restartWindow).pending = s.pending := by
  simp [State.restartWindow]
@[simp] theorem State.restartWindow_cfg (s : State) : (s.restartWindow).cfg = s.cfg := by
  simp [State.restartWindow]
@[simp] theorem State.restartWindow_running (s : State) : (s.restartWindow).running = s.running := by
  simp [State.restartWindow]

@[simp] theorem State.settleWindow_filing (s : State) : (s.settleWindow).filing = s.filing := by
  simp [State.settleWindow]
@[simp] theorem State.settleWindow_slots (s : State) : (s.settleWindow).slots = s.slots := by
  simp [State.settleWindow]
@[simp] theorem State.settleWindow_hdf (s : State) : (s.settleWindow).hdf = s.hdf := by
  simp [State.settleWindow]
@[simp] theorem State.settleWindow_bkc (s : State) : (s.settleWindow).bkc = s.bkc := by
  simp [State.settleWindow]
@[simp] theorem State.settleWindow_pnl (s : State) : (s.settleWindow).pnl = s.pnl := by
  simp [State.settleWindow]
@[simp] theorem State.settleWindow_ocl (s : State) : (s.settleWindow).ocl = s.ocl := by
  simp [State.settleWindow]
@[simp] theorem State.settleWindow_svl (s : State) : (s.settleWindow).svl = s.svl := by
  simp [State.settleWindow]
@[simp] theorem State.settleWindow_cfl (s : State) : (s.settleWindow).cfl = s.cfl := by
  simp [State.settleWindow]
@[simp] theorem State.settleWindow_overtaken (s : State) : (s.settleWindow).overtaken = s.overtaken := by
  simp [State.settleWindow]
@[simp] theorem State.settleWindow_pending (s : State) : (s.settleWindow).pending = s.pending := by
  simp [State.settleWindow]
@[simp] theorem State.settleWindow_cfg (s : State) : (s.settleWindow).cfg = s.cfg := by
  simp [State.settleWindow]

@[simp] theorem State.handDemand_filing (s : State) : (s.handDemand).filing = s.filing := by
  simp [State.handDemand]
@[simp] theorem State.handDemand_slots (s : State) : (s.handDemand).slots = s.slots := by
  simp [State.handDemand]
@[simp] theorem State.handDemand_hdf (s : State) : (s.handDemand).hdf = s.hdf := by
  simp [State.handDemand]
@[simp] theorem State.handDemand_pvt (s : State) : (s.handDemand).pvt = s.pvt := by
  simp [State.handDemand]
@[simp] theorem State.handDemand_fsc (s : State) : (s.handDemand).fsc = s.fsc := by
  simp [State.handDemand]
@[simp] theorem State.handDemand_bkc (s : State) : (s.handDemand).bkc = s.bkc := by
  simp [State.handDemand]
@[simp] theorem State.handDemand_pnl (s : State) : (s.handDemand).pnl = s.pnl := by
  simp [State.handDemand]
@[simp] theorem State.handDemand_ocl (s : State) : (s.handDemand).ocl = s.ocl := by
  simp [State.handDemand]
@[simp] theorem State.handDemand_svl (s : State) : (s.handDemand).svl = s.svl := by
  simp [State.handDemand]
@[simp] theorem State.handDemand_cfl (s : State) : (s.handDemand).cfl = s.cfl := by
  simp [State.handDemand]
@[simp] theorem State.handDemand_overtaken (s : State) : (s.handDemand).overtaken = s.overtaken := by
  simp [State.handDemand]
@[simp] theorem State.handDemand_pending (s : State) : (s.handDemand).pending = s.pending := by
  simp [State.handDemand]
@[simp] theorem State.handDemand_cfg (s : State) : (s.handDemand).cfg = s.cfg := by
  simp [State.handDemand]
@[simp] theorem State.handDemand_running (s : State) : (s.handDemand).running = s.running := by
  simp [State.handDemand]

@[simp] theorem State.timedStart_filing (s : State) : (s.timedStart).filing = s.filing := by
  simp [State.timedStart]
@[simp] theorem State.timedStart_slots (s : State) : (s.timedStart).slots = s.slots := by
  simp [State.timedStart]
@[simp] theorem State.timedStart_bkc (s : State) : (s.timedStart).bkc = s.bkc := by
  simp [State.timedStart]
@[simp] theorem State.timedStart_pnl (s : State) : (s.timedStart).pnl = s.pnl := by
  simp [State.timedStart]
@[simp] theorem State.timedStart_ocl (s : State) : (s.timedStart).ocl = s.ocl := by
  simp [State.timedStart]
@[simp] theorem State.timedStart_svl (s : State) : (s.timedStart).svl = s.svl := by
  simp [State.timedStart]
@[simp] theorem State.timedStart_cfl (s : State) : (s.timedStart).cfl = s.cfl := by
  simp [State.timedStart]
@[simp] theorem State.timedStart_overtaken (s : State) : (s.timedStart).overtaken = s.overtaken := by
  simp [State.timedStart]
@[simp] theorem State.timedStart_pending (s : State) : (s.timedStart).pending = s.pending := by
  simp [State.timedStart]
@[simp] theorem State.timedStart_cfg (s : State) : (s.timedStart).cfg = s.cfg := by
  simp [State.timedStart]

@[simp] theorem State.overtakeWindow_filing (s : State) : (s.overtakeWindow).filing = s.filing := by
  simp [State.overtakeWindow]
@[simp] theorem State.overtakeWindow_slots (s : State) : (s.overtakeWindow).slots = s.slots := by
  simp [State.overtakeWindow]
@[simp] theorem State.overtakeWindow_hdf (s : State) : (s.overtakeWindow).hdf = s.hdf := by
  simp [State.overtakeWindow]
@[simp] theorem State.overtakeWindow_hbp (s : State) : (s.overtakeWindow).hbp = s.hbp := by
  simp [State.overtakeWindow]
@[simp] theorem State.overtakeWindow_pvt (s : State) : (s.overtakeWindow).pvt = s.pvt := by
  simp [State.overtakeWindow]
@[simp] theorem State.overtakeWindow_fsc (s : State) : (s.overtakeWindow).fsc = s.fsc := by
  simp [State.overtakeWindow]
@[simp] theorem State.overtakeWindow_bkc (s : State) : (s.overtakeWindow).bkc = s.bkc := by
  simp [State.overtakeWindow]
@[simp] theorem State.overtakeWindow_pnl (s : State) : (s.overtakeWindow).pnl = s.pnl := by
  simp [State.overtakeWindow]
@[simp] theorem State.overtakeWindow_ocl (s : State) : (s.overtakeWindow).ocl = s.ocl := by
  simp [State.overtakeWindow]
@[simp] theorem State.overtakeWindow_svl (s : State) : (s.overtakeWindow).svl = s.svl := by
  simp [State.overtakeWindow]
@[simp] theorem State.overtakeWindow_cfl (s : State) : (s.overtakeWindow).cfl = s.cfl := by
  simp [State.overtakeWindow]
@[simp] theorem State.overtakeWindow_pending (s : State) : (s.overtakeWindow).pending = s.pending := by
  simp [State.overtakeWindow]
@[simp] theorem State.overtakeWindow_cfg (s : State) : (s.overtakeWindow).cfg = s.cfg := by
  simp [State.overtakeWindow]
@[simp] theorem State.overtakeWindow_running (s : State) : (s.overtakeWindow).running = s.running := by
  simp [State.overtakeWindow]

@[simp] theorem State.shedStart_filing (s : State) : (s.shedStart).filing = s.filing := by
  simp [State.shedStart]
@[simp] theorem State.shedStart_slots (s : State) : (s.shedStart).slots = s.slots := by
  simp [State.shedStart]
@[simp] theorem State.shedStart_hbp (s : State) : (s.shedStart).hbp = s.hbp := by
  simp [State.shedStart]
@[simp] theorem State.shedStart_pvt (s : State) : (s.shedStart).pvt = s.pvt := by
  simp [State.shedStart]
@[simp] theorem State.shedStart_bkc (s : State) : (s.shedStart).bkc = s.bkc := by
  simp [State.shedStart]
@[simp] theorem State.shedStart_pnl (s : State) : (s.shedStart).pnl = s.pnl := by
  simp [State.shedStart]
@[simp] theorem State.shedStart_ocl (s : State) : (s.shedStart).ocl = s.ocl := by
  simp [State.shedStart]
@[simp] theorem State.shedStart_svl (s : State) : (s.shedStart).svl = s.svl := by
  simp [State.shedStart]
@[simp] theorem State.shedStart_cfl (s : State) : (s.shedStart).cfl = s.cfl := by
  simp [State.shedStart]
@[simp] theorem State.shedStart_pending (s : State) : (s.shedStart).pending = s.pending := by
  simp [State.shedStart]
@[simp] theorem State.shedStart_cfg (s : State) : (s.shedStart).cfg = s.cfg := by
  simp [State.shedStart]
@[simp] theorem State.shedStart_running (s : State) : (s.shedStart).running = s.running := by
  simp [State.shedStart]

@[simp] theorem State.warnAsserted_filing (s : State) : (s.warnAsserted).filing = s.filing := by
  unfold State.warnAsserted; split <;> simp
@[simp] theorem State.warnAsserted_slots (s : State) : (s.warnAsserted).slots = s.slots := by
  unfold State.warnAsserted; split <;> simp
@[simp] theorem State.warnAsserted_hbp (s : State) : (s.warnAsserted).hbp = s.hbp := by
  unfold State.warnAsserted; split <;> simp
@[simp] theorem State.warnAsserted_pvt (s : State) : (s.warnAsserted).pvt = s.pvt := by
  unfold State.warnAsserted; split <;> simp
@[simp] theorem State.warnAsserted_bkc (s : State) : (s.warnAsserted).bkc = s.bkc := by
  unfold State.warnAsserted; split <;> simp
@[simp] theorem State.warnAsserted_pnl (s : State) : (s.warnAsserted).pnl = s.pnl := by
  unfold State.warnAsserted; split <;> simp
@[simp] theorem State.warnAsserted_ocl (s : State) : (s.warnAsserted).ocl = s.ocl := by
  unfold State.warnAsserted; split <;> simp
@[simp] theorem State.warnAsserted_svl (s : State) : (s.warnAsserted).svl = s.svl := by
  unfold State.warnAsserted; split <;> simp
@[simp] theorem State.warnAsserted_cfl (s : State) : (s.warnAsserted).cfl = s.cfl := by
  unfold State.warnAsserted; split <;> simp
@[simp] theorem State.warnAsserted_pending (s : State) : (s.warnAsserted).pending = s.pending := by
  unfold State.warnAsserted; split <;> simp
@[simp] theorem State.warnAsserted_cfg (s : State) : (s.warnAsserted).cfg = s.cfg := by
  unfold State.warnAsserted; split <;> simp
@[simp] theorem State.warnAsserted_running (s : State) : (s.warnAsserted).running = s.running := by
  unfold State.warnAsserted; split <;> simp

@[simp] theorem State.warnReleased_filing (s : State) : (s.warnReleased).filing = s.filing := by
  unfold State.warnReleased; split <;> simp
@[simp] theorem State.warnReleased_slots (s : State) : (s.warnReleased).slots = s.slots := by
  unfold State.warnReleased; split <;> simp
@[simp] theorem State.warnReleased_hdf (s : State) : (s.warnReleased).hdf = s.hdf := by
  unfold State.warnReleased; split <;> simp
@[simp] theorem State.warnReleased_hbp (s : State) : (s.warnReleased).hbp = s.hbp := by
  unfold State.warnReleased; split <;> simp
@[simp] theorem State.warnReleased_pvt (s : State) : (s.warnReleased).pvt = s.pvt := by
  unfold State.warnReleased; split <;> simp
@[simp] theorem State.warnReleased_bkc (s : State) : (s.warnReleased).bkc = s.bkc := by
  unfold State.warnReleased; split <;> simp
@[simp] theorem State.warnReleased_pnl (s : State) : (s.warnReleased).pnl = s.pnl := by
  unfold State.warnReleased; split <;> simp
@[simp] theorem State.warnReleased_ocl (s : State) : (s.warnReleased).ocl = s.ocl := by
  unfold State.warnReleased; split <;> simp
@[simp] theorem State.warnReleased_svl (s : State) : (s.warnReleased).svl = s.svl := by
  unfold State.warnReleased; split <;> simp
@[simp] theorem State.warnReleased_cfl (s : State) : (s.warnReleased).cfl = s.cfl := by
  unfold State.warnReleased; split <;> simp
@[simp] theorem State.warnReleased_overtaken (s : State) : (s.warnReleased).overtaken = s.overtaken := by
  unfold State.warnReleased; split <;> simp
@[simp] theorem State.warnReleased_pending (s : State) : (s.warnReleased).pending = s.pending := by
  unfold State.warnReleased; split <;> simp
@[simp] theorem State.warnReleased_cfg (s : State) : (s.warnReleased).cfg = s.cfg := by
  unfold State.warnReleased; split <;> simp
@[simp] theorem State.warnReleased_running (s : State) : (s.warnReleased).running = s.running := by
  unfold State.warnReleased; split <;> simp

@[simp] theorem State.releaseExpired_filing (s : State) : (s.releaseExpired).filing = s.filing := by
  simp [State.releaseExpired]
@[simp] theorem State.releaseExpired_slots (s : State) : (s.releaseExpired).slots = s.slots := by
  simp [State.releaseExpired]
@[simp] theorem State.releaseExpired_hdf (s : State) : (s.releaseExpired).hdf = s.hdf := by
  simp [State.releaseExpired]
@[simp] theorem State.releaseExpired_hbp (s : State) : (s.releaseExpired).hbp = s.hbp := by
  simp [State.releaseExpired]
@[simp] theorem State.releaseExpired_pvt (s : State) : (s.releaseExpired).pvt = s.pvt := by
  simp [State.releaseExpired]
@[simp] theorem State.releaseExpired_bkc (s : State) : (s.releaseExpired).bkc = s.bkc := by
  simp [State.releaseExpired]
@[simp] theorem State.releaseExpired_pnl (s : State) : (s.releaseExpired).pnl = s.pnl := by
  simp [State.releaseExpired]
@[simp] theorem State.releaseExpired_ocl (s : State) : (s.releaseExpired).ocl = s.ocl := by
  simp [State.releaseExpired]
@[simp] theorem State.releaseExpired_svl (s : State) : (s.releaseExpired).svl = s.svl := by
  simp [State.releaseExpired]
@[simp] theorem State.releaseExpired_cfl (s : State) : (s.releaseExpired).cfl = s.cfl := by
  simp [State.releaseExpired]
@[simp] theorem State.releaseExpired_overtaken (s : State) : (s.releaseExpired).overtaken = s.overtaken := by
  simp [State.releaseExpired]
@[simp] theorem State.releaseExpired_pending (s : State) : (s.releaseExpired).pending = s.pending := by
  simp [State.releaseExpired]
@[simp] theorem State.releaseExpired_cfg (s : State) : (s.releaseExpired).cfg = s.cfg := by
  simp [State.releaseExpired]
@[simp] theorem State.releaseExpired_running (s : State) : (s.releaseExpired).running = s.running := by
  simp [State.releaseExpired]

end Sys2Proof.Machine
end

