-- ==== Sys2Proof/Laws/Ops.lean ====
section
/-! SUPPORT. For each shared operation, what it does said once, so that a proof cites it in place of unfolding it. -/

namespace Sys2Proof.Machine

/-! ### Time -/

@[simp] theorem State.advance_zero (s : State) : s.advance 0 = s := by simp [State.advance]

@[simp] theorem Timer.tick_none (limit d : Nat) : Timer.tick limit d none = none := rfl

@[simp] theorem Timer.tick_some (limit d v : Nat) : Timer.tick limit d (some v) = some (min limit (v + d)) := rfl

@[simp] theorem Timer.tick_isSome (limit d : Nat) (t : Timer) : (Timer.tick limit d t).isSome = t.isSome := by
  cases t <;> rfl

/-- The time that passes at a locker, where any passes. -/
theorem State.advance_locker (s : State) {d : Nat} (h : d ≠ 0) (n : LockerNo) :
    (s.advance d).locker n = (s.locker n).tick d := by
  rw [State.advance, if_neg h]
  exact State.eachLocker_locker s _ n

/-- The time that passes at the blocks, where any passes. -/
theorem State.advance_blocks (s : State) {d : Nat} (h : d ≠ 0) :
    (s.advance d).hdf = { s.hdf with windowTimer := s.hdf.windowTimer.tick windowEnd d }
    ∧ (s.advance d).fsc = { s.fsc with releaseHold := s.fsc.releaseHold.tick releaseEnd d }
    ∧ (s.advance d).pnl = { s.pnl with
        claimTimer := s.pnl.claimTimer.tick claimEnd d
        throttleTimer := s.pnl.throttleTimer.tick throttleEnd d
        gapTimer := s.pnl.gapTimer.tick gapEnd d }
    ∧ (s.advance d).svl = { s.svl with gapTimer := s.svl.gapTimer.tick gapEnd d } := by
  rw [State.advance, if_neg h]
  exact ⟨rfl, rfl, rfl, rfl⟩

/-- What was overtaken at an instant is over with it. -/
theorem State.advance_overtaken (s : State) {d : Nat} (h : d ≠ 0) : (s.advance d).overtaken = Overtaken.reset := by
  rw [State.advance, if_neg h]

/-- Time changes neither the states of the lockers nor anything a rule decides by but the timers. -/
theorem State.advance_locker_keeps (s : State) (d : Nat) (n : LockerNo) :
    ∃ u a p, (s.advance d).locker n = { s.locker n with unlatchTimer := u, ajarTimer := a, lampPhase := p } := by
  by_cases h : d = 0
  · subst h
    exact ⟨_, _, _, by rw [State.advance_zero]⟩
  · exact ⟨_, _, _, State.advance_locker s h n⟩

@[simp] theorem State.onExpiry_none (s : State) (limit : Nat) (f : State → State) : s.onExpiry none limit f = s := rfl

theorem State.onExpiry_some (s : State) (v limit : Nat) (f : State → State) :
    s.onExpiry (some v) limit f = f (s.advance (limit - v)) := rfl

/-- A timer that stands at its end expires with no more time passing. -/
theorem State.onExpiry_atEnd (s : State) {v limit : Nat} (h : limit ≤ v) (f : State → State) :
    s.onExpiry (some v) limit f = f s := by
  rw [State.onExpiry_some, Nat.sub_eq_zero_of_le h, State.advance_zero]

/-- What every expiry keeps when time and the expiry keep it. -/
theorem State.onExpiry_keeps {P : State → Prop} (s : State) (t : Timer) (limit : Nat) (f : State → State) (h : P s)
    (time : ∀ d, P s → P (s.advance d)) (expire : ∀ s, P s → P (f s)) : P (s.onExpiry t limit f) := by
  cases t with
  | none => exact h
  | some v => exact expire _ (time _ h)

@[simp] theorem Timer.due_none (limit : Nat) : Timer.due limit none = false := rfl

@[simp] theorem Timer.due_some (limit v : Nat) : Timer.due limit (some v) = decide (limit ≤ v) := rfl

/-- An overtaken timed window start does nothing (R83). -/
theorem execTimedWindowStart_overtaken (s : State) (h : s.overtaken.windowStart = true) :
    execTimedWindowStart s = .next (s.withOvertaken { s.overtaken with windowStart := false }) := by
  simp [execTimedWindowStart, h]

/-- A timed window start that is not overtaken is the expiry of the window timer. -/
theorem execTimedWindowStart_due (s : State) (h : s.overtaken.windowStart = false) :
    execTimedWindowStart s = .next (s.onExpiry s.hdf.windowTimer windowEnd State.timedStart) := by
  simp [execTimedWindowStart, h]

/-! ### The lamp -/

/-- Bringing the indicator to its pattern writes the indicator and the lamp's clock alone. -/
theorem Locker.refresh_eq (l : Locker) : ∃ p, l.refresh = { l with indicator := l.pattern, lampPhase := p } := ⟨_, rfl⟩

/-- A locker whose indicator shows its pattern stays as it is. -/
theorem Locker.refresh_self {l : Locker} (h : l.indicator = l.pattern) : l.refresh = l := by
  cases l
  simp only [Locker.refresh] at *
  simp [← h]

@[simp] theorem Locker.refresh_pattern (l : Locker) : l.refresh.pattern = l.pattern := rfl

@[simp] theorem Locker.refresh_indicator (l : Locker) : l.refresh.indicator = l.pattern := rfl

/-! ### Records of lockers -/

/-- The second of two writes of one record stands. -/
@[simp] theorem State.setLocker_setLocker (s : State) (n : LockerNo) (l m : Locker) :
    (s.setLocker n l).setLocker n m = s.setLocker n m := by
  simp [State.setLocker]

/-! ### Ends of bookings -/

/-- R30, where OCL has room. -/
theorem State.fileOrQueue_room (s : State) (n : LockerNo) (r : OutcomeRecord) (h : s.ocl.records.length < 8) :
    s.fileOrQueue n r = (s.putLocker n (s.locker n).clearBooking).withOcl (s.ocl.file r) := by
  simp [State.fileOrQueue, State.hasRoom, h]

/-- R30, where OCL has none. -/
theorem State.fileOrQueue_full (s : State) (n : LockerNo) (r : OutcomeRecord) (h : 8 ≤ s.ocl.records.length) :
    s.fileOrQueue n r
      = (s.putLocker n { s.locker n with recordPending := true }).withFiling (s.filing ++ [⟨n, r⟩]) := by
  simp [State.fileOrQueue, State.hasRoom, Nat.not_lt.mpr h]

/-- Filing or queuing a record touches no other locker. -/
theorem State.fileOrQueue_other (s : State) {n m : LockerNo} (r : OutcomeRecord) (h : m ≠ n) :
    (s.fileOrQueue n r).locker m = s.locker m := by
  unfold State.fileOrQueue
  split <;> simp [h]

/-- The report that a locker has left HOLDING changes the claim and its timer at most. -/
theorem State.leftHolding_locker (s : State) (n : LockerNo) (was : LockerState) (m : LockerNo) :
    (s.leftHolding n was).locker m = s.locker m := by
  unfold State.leftHolding
  split <;> simp [State.endClaim]

/-- An end in a lockout touches no other locker. -/
theorem State.endInLockout_other (s : State) {n m : LockerNo} (c : Cause) (e : BookingEnd) (h : m ≠ n) :
    (s.endInLockout n c e).locker m = s.locker m := by
  simp only [State.endInLockout]
  rw [State.fileOrQueue_other _ _ h, State.leftHolding_locker, State.putLocker_locker_other _ _ h]

/-- A collection touches no other locker. -/
theorem State.endCollected_other (s : State) {n m : LockerNo} (h : m ≠ n) :
    (s.endCollected n).locker m = s.locker m := by
  simp only [State.endCollected]
  rw [State.fileOrQueue_other _ _ h, State.putLocker_locker_other _ _ h]

@[simp] theorem State.fileFromQueue_nil (s : State) (h : s.filing = []) : s.fileFromQueue = s := by
  simp [State.fileFromQueue, h]

/-! ### The load chain -/

@[simp] theorem Bkc.withEntries_entries (b : Bkc) (es : List ChainEntry) : (b.withEntries es).entries = es := rfl

@[simp] theorem Bkc.withEntries_remaining (b : Bkc) (es : List ChainEntry) :
    (b.withEntries es).remaining = es.length := rfl

@[simp] theorem Bkc.withEntries_active (b : Bkc) (es : List ChainEntry) : (b.withEntries es).active = !es.isEmpty := rfl

/-- R151: what is removed from the chain stands after its current entry. -/
theorem entriesWithout_head (ref : OrderRef) (es : List ChainEntry) : (entriesWithout ref es).head? = es.head? := by
  cases es <;> rfl

theorem entriesWithout_length (ref : OrderRef) (es : List ChainEntry) :
    (entriesWithout ref es).length ≤ es.length := by
  cases es with
  | nil => exact Nat.le_refl _
  | cons e rest => simpa [entriesWithout] using List.length_filter_le _ rest

@[simp] theorem State.giveTurn_nil (s : State) : s.giveTurn [] = s.withBkc (s.bkc.withEntries []) := rfl

/-- An entry whose locker is BOOKED under its ref has its turn. -/
theorem State.giveTurn_take (s : State) (e : ChainEntry) (rest : List ChainEntry)
    (h : (s.locker e.locker).state = .booked ∧ (s.locker e.locker).orderRef = some e.ref) :
    s.giveTurn (e :: rest) = (s.enterLoading e.locker).withBkc (s.bkc.withEntries (e :: rest)) := by
  rw [State.giveTurn, if_pos h]

/-- Any other entry is skipped. -/
theorem State.giveTurn_skip (s : State) (e : ChainEntry) (rest : List ChainEntry)
    (h : ¬ ((s.locker e.locker).state = .booked ∧ (s.locker e.locker).orderRef = some e.ref)) :
    s.giveTurn (e :: rest) = (s.withBkc { s.bkc with skipped := s.bkc.skipped + 1 }).giveTurn rest := by
  rw [State.giveTurn, if_neg h]

/-- Turns and skips leave a chain whose counts agree with its list. -/
theorem State.giveTurn_counts (s : State) (es : List ChainEntry) :
    (s.giveTurn es).bkc.remaining = (s.giveTurn es).bkc.entries.length
    ∧ (s.giveTurn es).bkc.active = !(s.giveTurn es).bkc.entries.isEmpty
    ∧ (s.giveTurn es).bkc.entries.length ≤ es.length := by
  induction es generalizing s with
  | nil => exact ⟨rfl, rfl, Nat.le_refl _⟩
  | cons e rest ih =>
    by_cases h : (s.locker e.locker).state = .booked ∧ (s.locker e.locker).orderRef = some e.ref
    · rw [State.giveTurn_take s e rest h]
      exact ⟨rfl, rfl, Nat.le_refl _⟩
    · rw [State.giveTurn_skip s e rest h]
      exact ⟨(ih _).1, (ih _).2.1, Nat.le_succ_of_le (ih _).2.2⟩

/-! ### Responses -/

theorem State.respond_eq (s : State) (command : Byte) (a : Answer) :
    s.respond command a = s.withSvl { s.svl with
      inProgress := some ⟨command, s.svl.discarded, a.code, a.fields⟩, discarded := false } := rfl

/-- R178: a frame that arrives with no command in progress is judged, the receiver hunting again. -/
theorem State.serviceArrival_idle (s : State) (judge : State → State) (h : s.svl.inProgress = none) :
    s.serviceArrival judge = judge (s.withSvl s.svl.toHunting) := by
  simp [State.serviceArrival, Svl.toHunting, h]

/-- R178: a frame that arrives with a command in progress is discarded. -/
theorem State.serviceArrival_busy (s : State) (judge : State → State) {r : ServiceResponse}
    (h : s.svl.inProgress = some r) :
    s.serviceArrival judge = s.withSvl { s.svl.toHunting with discarded := true } := by
  simp [State.serviceArrival, Svl.toHunting, State.withSvl, h]

/-- R158: a panel frame that arrives with no response being sent is taken, the receiver hunting again. -/
theorem State.panelArrival_idle (s : State) (take : State → State) (h : s.pnl.sending = none) :
    s.panelArrival take = take (s.withPnl s.pnl.toHunting) := by
  simp [State.panelArrival, Pnl.toHunting, h]

/-- R158: a panel frame that arrives while a response is being sent is dropped. -/
theorem State.panelArrival_busy (s : State) (take : State → State) {r : PanelResponse} (h : s.pnl.sending = some r) :
    s.panelArrival take = s.withPnl s.pnl.toHunting := by
  simp [State.panelArrival, Pnl.toHunting, h]

/-! ### The heaters -/

/-- R79: the outputs of a slot. -/
@[simp] theorem State.enterSlot_locker (s : State) (j : Fin 16) (n : LockerNo) :
    (s.enterSlot j).locker n = { s.locker n with
      heaterOn := placedIn s.hdf.plan j n && decide (0 < (s.locker n).duty) } := by
  simp [State.enterSlot]

@[simp] theorem State.enterSlot_hdf (s : State) (j : Fin 16) :
    (s.enterSlot j).hdf = { s.hdf with currentSlot := some j } := by
  simp [State.enterSlot]

/-- R78: a plan of `n` layers has `n` layers. -/
@[simp] theorem packLayers_length (n : Nat) (run : List LockerNo) : (packLayers n run).length = n := by
  induction n generalizing run with
  | zero => rfl
  | succ n ih => simp [packLayers, ih]

/-- R77: the fill gives out no more than its budget. -/
theorem fill_sum_le (budget : Nat) (items : List FillItem) : ((fill budget items).map Grant.duty).sum ≤ budget := by
  induction items generalizing budget with
  | nil => simp [fill]
  | cons i rest ih =>
    have := ih (budget - min i.request budget)
    simp only [fill, List.map_cons, List.sum_cons]
    omega

/-! ### A step -/

/-- Every meaning answers a next state, so what holds of every `exec` and of every millisecond holds of every step. -/
theorem step_keeps {P : State → Prop} (time : ∀ s, P s → P (s.advance 1))
    (run : ∀ c s t, P s → exec c s = .next t → P t) (queue : ∀ s q, P s → P (s.withPending q)) {s t : State} (h : P s)
    (e : step s = .next t) : P t := by
  unfold step at e
  split at e
  · cases e
    exact time s h
  · exact run _ _ _ (queue _ _ h) e

end Sys2Proof.Machine
end

