-- ==== Sys2Proof/Tests/Slice0.lean ====
section
/-! SUPPORT. The builder's own tests: the well-formedness checks, commands on small states with values of the manual's
worked examples, and for every statement with hypotheses a state and operands that meet them. -/

namespace Sys2Proof.Tests
open Sys2Proof.Machine

/-! ### Well-formedness: each check turns something away -/

theorem test_wf_image_length : (Instr.readCompletion [79, 76] 0).wellFormed = false
    ∧ (Instr.readCompletion (List.replicate 250 0) 0).wellFormed = true := by decide +kernel

theorem test_wf_load_refs : (Instr.load false (List.replicate 10 1)).wellFormed = false
    ∧ (Instr.load false (List.replicate 9 1)).wellFormed = true ∧ (Instr.load false []).wellFormed = true := by decide

theorem test_wf_unknown_code : (Instr.badFrame (.unknownCode 1)).wellFormed = false
    ∧ (Instr.badFrame (.unknownCode 12)).wellFormed = false ∧ (Instr.badFrame (.unknownCode 13)).wellFormed = true
    ∧ (Instr.badFrame (.unknownCode 0)).wellFormed = true := by decide

theorem test_wf_bad_length : (Instr.badFrame (.badLength 0)).wellFormed = false
    ∧ (Instr.badFrame (.badLength 13)).wellFormed = false ∧ (Instr.badFrame (.badLength 12)).wellFormed = true := by decide

theorem test_wf_unknown_type : (Instr.panelBadMessage (.unknownType 4)).wellFormed = false
    ∧ (Instr.panelBadMessage (.unknownType 5)).wellFormed = true := by decide

theorem test_wf_panel_length : (Instr.panelBadMessage (.badLength 5)).wellFormed = false
    ∧ (Instr.panelBadMessage (.badLength 0)).wellFormed = false
    ∧ (Instr.panelBadMessage (.badLength 4)).wellFormed = true := by decide

/-! ### Small states -/

/-- The state after a command. -/
def after (c : Instr) (s : State) : State :=
  match exec c s with
  | .next t => t
  | .fault _ => s
  | .refused _ => s

/-- Profile 3 of the manual's 2.6. -/
def profile3 : Profile where
  segments := #v[⟨3, 18⟩, ⟨5, 16⟩, ⟨10, 14⟩, ⟨12, 13⟩, ⟨13, 13⟩, ⟨15, 13⟩, ⟨15, 13⟩, ⟨15, 13⟩, ⟨15, 13⟩, ⟨15, 13⟩,
    ⟨15, 13⟩, ⟨15, 13⟩]
  offsetMinus := true
  offsetAmount := 3
  floorCode := 11
  holdLimit := 90
  graceCode := 4
  bandCode := 1

/-- Profile 3 with a grace of 0 s. -/
def profile0 : Profile := { profile3 with graceCode := 0 }

/-- The configuration of the manual's 11.6, station 9. -/
def config9 : Config where
  station := 9
  globalBase := 0
  globalLimit := 19
  localBase := 4
  localLimit := 11
  feederBudget := 1200
  branchBudget := 250
  margin := 20
  shed := 40
  fallback := 100
  lonePermitted := false
  hideLock := false
  heaterCode := 20
  overtemp := 190
  hideMask := 0
  staffCode := 900324
  rate := .r19200

def free : Locker := { Locker.reset with state := .free }
def booked : Locker :=
  { free with state := .booked, orderRef := some 40712, pickupCode := some 318204, profile := some 3,
              reading := .valid 146 }
def loading : Locker :=
  { booked with state := .loading, latch := .released, unlatchTimer := some 0, indicator := .fast }
def held : Locker :=
  { booked with state := .holding, indicator := .steady, reading := .valid 126, ring0 := .valid 127,
                ring1 := .valid 126, ring2 := .valid 125, holdElapsed := 1000, minReading := some 125 }
def opened : Locker := { held with state := .opened, latch := .released, unlatchTimer := some 0, indicator := .fast }
def locked : Locker := { free with state := .lockout, lockoutCause := some .cold, indicator := .slow }
def clearing : Locker := { locked with state := .clearing, latch := .released, unlatchTimer := some 0, indicator := .fast }
def filing : Locker := { booked with state := .filing, recordPending := true }
/-- The door of a locker stands open, forced. -/
def forced (l : Locker) : Locker := { l with doorShut := false, tamper := true, indicator := .slow }
/-- The door of a released locker stands open. -/
def drawn (l : Locker) : Locker := { l with doorShut := false, unlatchTimer := none, ajarTimer := some 0 }

/-- A bank in JOINED, every locker FREE. -/
def bank : State :=
  { State.reset with
    lockers := Vector.replicate 16 free
    slots := #v[⟨false, false, none⟩, ⟨false, false, none⟩, ⟨true, true, some profile0⟩, ⟨true, true, some profile3⟩,
      ⟨true, false, some profile3⟩, ⟨true, true, some profile3⟩, ⟨false, false, none⟩, ⟨false, false, none⟩]
    hdf := { Hdf.reset with windowTimer := some 0 }
    hbp := { Hbp.reset with path := .ready }
    pvt := { Pvt.reset with station := .joined }
    cfl := { image := none, fault := none, config := some config9 } }

/-- The bank with one locker's record replaced. -/
def bankWith (n : LockerNo) (l : Locker) : State := bank.setLocker n l

def record (ref : OrderRef) : OutcomeRecord :=
  ⟨ref, 2, .cold, ⟨true, false, false, false⟩, some ⟨300, some 118, 5, 4⟩⟩

/-- The bank with a full Outcome List. -/
def fullBank (s : State) : State := { s with ocl := ⟨(List.range 8).map fun k => record (BitVec.ofNat 32 (k + 1)), true⟩ }

/-- The DEMAND frame of the manual's 5.8. -/
def frame6 : DemandFrame := ⟨false, 6, ⟨225, 700, 475⟩, 9, 0⟩

/-- A waiting sender on an idle line. -/
def waitingBank : State := { bank with hbp := { bank.hbp with slot := some frame6, sender := .waiting, periodResult := .pending } }

/-- An attempt of this station after `k` cells read as sent. -/
def driving (k : Nat) : State :=
  { bank with hbp := { bank.hbp with
      slot := some frame6
      driven := some frame6
      attemptFrame := .current
      periodResult := .pending
      path := .inFrame
      lineIdle := false
      cellsReceived := k
      cells := frame6.cells.take k
      sender := if k ≤ 6 then .arbitrating else .sending } }

/-- A frame being received, after `k` cells of it. -/
def receiving (k : Nat) : State :=
  { bank with hbp := { bank.hbp with path := .inFrame, lineIdle := false, cellsReceived := k, cells := frame6.cells.take k } }

/-! ### Start-up -/

/-- The image of the manual's 11.6, with profile 3 in slots 2 and 3 and no other profile. -/
def imageBody : List Byte :=
  [79, 76, 9, 0, 19, 4, 11] ++ bytes2 1200 ++ bytes2 250 ++ [20, 40] ++ bytes2 100
    ++ [0, 20, 190, 0, 0, 13, 188, 228, 1] ++ List.replicate 56 0
    ++ [3, 18, 5, 16, 10, 14, 12, 13, 13, 13, 15, 13, 15, 13, 15, 13, 15, 13, 15, 13, 15, 13, 15, 13, 11, 11, 90, 148]
    ++ [3, 18, 5, 16, 10, 14, 12, 13, 13, 13, 15, 13, 15, 13, 15, 13, 15, 13, 15, 13, 15, 13, 15, 13, 11, 11, 90, 148]
    ++ List.replicate 112 0
def image9 : List Byte := imageBody ++ bytes2 (onesSum (wordsOf imageBody))
/-- The image of the manual's 11.7: station 21 lies outside the global range. -/
def image21 : List Byte := (imageBody.set 2 21) ++ bytes2 (onesSum (wordsOf (imageBody.set 2 21)))

theorem test_image_passes : judgeImage image9 = none ∧ image9.length = 250 := by decide +kernel
theorem test_image_global_range : judgeImage image21 = some .globalRange ∧ image21.length = 250 := by decide +kernel
theorem test_image_blank : judgeImage (imageRead []) = some .noMemory := by decide +kernel
theorem test_image_check : judgeImage (image9.set 5 5) = some .check := by decide +kernel

theorem test_read_completion : (after (.readCompletion image9 2) State.reset).pvt.station = .listening
    ∧ ((after (.readCompletion image9 2) State.reset).locker 0).state = .free
    ∧ ((after (.readCompletion image9 2) State.reset).locker 1).lockoutCause = some .restart
    ∧ (after (.readCompletion image9 2) State.reset).hdf.windowTimer = some 0 := by decide +kernel
theorem test_read_completion_halts : (after (.readCompletion image21 0) State.reset).pvt.station = .halted
    ∧ (after (.readCompletion image21 0) State.reset).cfl.fault = some .globalRange := by decide +kernel
theorem test_memory_selected : State.reset.memorySelected = true ∧ State.reset.memoryClocked = true
    ∧ (after (.readCompletion image9 0) State.reset).memorySelected = false
    ∧ (after (.readCompletion image21 0) State.reset).memoryClocked = false := by decide +kernel
theorem test_reset : ((after .reset (bankWith 5 held)).locker 5).state = .out
    ∧ (after .reset (bankWith 5 held)).pvt.station = .starting := by decide

/-! ### Profiles and the scan -/

theorem test_profile3 : (List.finRange 12).map (setpointOf profile3)
      = [149, 141, 133, 129, 129, 129, 129, 129, 129, 129, 129, 129]
    ∧ floorOf profile3 = 124 ∧ graceOf profile3 = 120 ∧ holdLimitOf profile3 = 5400
    ∧ profileSound profile3 190 = true ∧ profileSound { profile3 with offsetAmount := 7 } 190 = false := by decide
theorem test_segments : [0, 59, 60, 179, 180, 780, 3780, 5400].map (activeSegment profile3) = [0, 0, 1, 1, 2, 3, 5, 5] := by
  decide

/-- The scan at e = 1001 of the manual's 3.5. -/
theorem test_scan_median : ((after (.scanEvent 5 (.valid 124)) (bankWith 5 held)).locker 5).reading = .valid 125
    ∧ ((after (.scanEvent 5 (.valid 124)) (bankWith 5 held)).locker 5).holdElapsed = 1001 := by decide
/-- The thirtieth FAULT reading locks the locker out (3.6). -/
theorem test_scan_sensor :
    ((after (.scanEvent 5 .fault) (bankWith 5 { held with ring2 := .fault, faultRun := 29 })).locker 5).lockoutCause
      = some .sensor := by decide

/-! ### Windows, the share and the shed -/

/-- The fill and pack of the manual's 4.10: budget 64, requests in fill order. -/
theorem test_fill_and_pack :
    fill 48 (fillOrder [⟨1, 3, 5, 7⟩, ⟨2, 1, 4, 9⟩, ⟨3, 2, 14, 16⟩, ⟨4, 2, 20, 16⟩, ⟨5, 3, 30, 16⟩])
      = [⟨2, 9⟩, ⟨4, 16⟩, ⟨3, 16⟩, ⟨5, 7⟩, ⟨1, 0⟩]
    ∧ slotsOf (packLayers 3 (packRun [⟨2, 9⟩, ⟨4, 16⟩, ⟨3, 16⟩, ⟨5, 7⟩])) 2 = [0, 1, 2, 3, 4, 5, 6, 7, 8]
    ∧ slotsOf (packLayers 3 (packRun [⟨2, 9⟩, ⟨4, 16⟩, ⟨3, 16⟩, ⟨5, 7⟩])) 5 = [9, 10, 11, 12, 13, 14, 15] := by decide
theorem test_shares : levelWalk ⟨225, 700, 475⟩ ⟨600, 1600, 900⟩ 2000 = ⟨225, 357, 0⟩
    ∧ feederEffective { config9 with feederBudget := 3000, margin := 10 } .warned = 16200 := by decide
theorem test_timed_window_start :
    (after .timedWindowStart { bank with pvt := { bank.pvt with station := .listening } }).pvt.listenCount = 1
    ∧ (after .timedWindowStart { bank with pvt := { bank.pvt with station := .isolated } }).hdf.windowTimer = some 0 := by
  decide
theorem test_slot_boundary :
    (after .slotBoundary { bank with hdf := { bank.hdf with currentSlot := some 14 } }).hdf.currentSlot = some 15
    ∧ (after .slotBoundary { bank with hdf := { bank.hdf with currentSlot := some 14 } }).hdf.windowTimer = some 1875 := by
  decide
theorem test_warn : (after .feederWarnAssertion bank).fsc.shed = .warned
    ∧ (after .feederWarnAssertion bank).fsc.feederBudget = 5760
    ∧ (after .feederWarnRelease (after .feederWarnAssertion bank)).fsc.releaseHold = some 0 := by decide
/-- R83: the timed start that is due together with the shed start, and is taken after it, does not happen. -/
theorem test_shed_start_first :
    let s : State := { bank with hdf := { bank.hdf with windowTimer := some 2000, currentSlot := some 15 } }
    let t := after .feederWarnAssertion s
    t.overtaken.windowStart = true ∧ t.hdf.windowTimer = some 0
    ∧ after .timedWindowStart t = { t with overtaken := Overtaken.reset }
    ∧ (t.advance 1).overtaken = Overtaken.reset := by decide
theorem test_release_hold :
    (after .releaseHoldExpiry { bank with fsc := { bank.fsc with shed := .releasing, releaseHold := some 10000 } }).fsc.shed
      = .liftDue := by decide

/-! ### Doors and timers -/

theorem test_door_open_holding : ((after (.doorOpenEvent 5) (bankWith 5 held)).locker 5).lockoutCause = some .tamper
    ∧ ((after (.doorOpenEvent 5) (bankWith 5 held)).ocl.records.map OutcomeRecord.outcome) = [.tamper] := by decide
theorem test_door_close_foreign :
    ((after (.doorCloseEvent 5 true) (bankWith 5 (forced booked))).locker 5).lockoutCause = some .foreign
    ∧ (after (.doorCloseEvent 5 true) (bankWith 5 (forced booked))).ocl.records.map OutcomeRecord.outcome = [.voided] := by
  decide
theorem test_collected :
    ((after (.doorCloseEvent 5 false) (bankWith 5 (drawn { opened with deferredCause := some .expired }))).locker 5).state
      = .free
    ∧ (after (.doorCloseEvent 5 false)
        (bankWith 5 (drawn { opened with deferredCause := some .expired }))).ocl.records.map OutcomeRecord.flags
      = [⟨false, true, false, false⟩] := by decide
theorem test_unlatch : ((after (.unlatchTimerExpiry 5) (bankWith 5 opened)).locker 5).state = .holding
    ∧ ((after (.unlatchTimerExpiry 5) (bankWith 5 opened)).locker 5).latch = .locked := by decide
theorem test_ajar : ((after (.ajarTimerExpiry 5) (bankWith 5 (drawn opened))).locker 5).ajar = true := by decide

/-! ### The heat bus -/

/-- The check word and the header of the manual's 5.8. -/
theorem test_check_word : frame6.checkWord = 1478 ∧ frame6.cells.length = 78
    ∧ frame6.cells.take 6 = [false, false, false, true, true, false]
    ∧ (⟨true, 17, ⟨0, 40000, 30000⟩, 0, 0⟩ : DemandFrame).checkWord = 4514 := by decide
theorem test_attempt_start : (after (.attemptStart false) waitingBank).hbp.sender = .arbitrating
    ∧ (after (.attemptStart true) waitingBank).hbp.attemptCount = 1 := by decide
theorem test_arbitration_lost : (after .arbitrationLost (driving 4)).hbp.sender = .waiting
    ∧ (after .arbitrationLost (driving 4)).hbp.erroredAttempts = 0 := by decide
theorem test_errored : (after (.erroredAttempt .differs) (driving 8)).hbp.erroredAttempts = 1
    ∧ (after .framingError (driving 8)).hbp.path = .skipping := by decide
theorem test_errored_past_cell_78 : after (.erroredAttempt .differs) (driving 79) = driving 79
    ∧ (after .framingError (driving 79)).hbp.erroredAttempts = 1 := by decide
theorem test_falling_edge : (after (.fallingEdge true) (receiving 3)).hbp.cellsReceived = 4 := by decide
theorem test_frame_end_own : (after .frameEnd (driving 78)).hbp.periodResult = .sent := by decide
theorem test_frame_end_peer : (after .frameEnd (receiving 78)).pvt.peers = [⟨6, ⟨225, 700, 475⟩, 9, true, 0⟩]
    ∧ (after .frameEnd (receiving 77)).hbp.framesDiscarded = 1 := by decide

/-! ### The panel -/

theorem test_present : (after (.present 318204) (bankWith 5 held)).pnl.claim = some 5
    ∧ (after (.present 1) bank).pnl.missCount = 1 := by decide
theorem test_confirm : ((after (.confirm 5) (after (.panelResponseSent) (after (.present 318204) (bankWith 5 held)))).locker
    5).state = .opened := by decide
theorem test_present_staff : ((after (.presentStaff 900324 5) (bankWith 5 locked)).locker 5).state = .clearing := by decide
theorem test_panel_frames : (after (.panelBadMessage (.unknownType 9)) bank).pnl.sending = some ⟨9, .unknown, []⟩
    ∧ (after .abandon bank).pnl.sending = some ⟨3, .ok, []⟩ := by decide
/-- The OFFER of locker 5, as the panel line carries it. -/
theorem test_panel_response_bytes : (⟨1, .offer, [5]⟩ : PanelResponse).bytes = [165, 3, 1, 4, 5, 78] := by decide
theorem test_throttle_ends :
    (after .throttleTimerExpiry { bank with pnl := { bank.pnl with
      throttled := true, missCount := 5, throttleTimer := some 60000 } }).pnl.missCount = 0 := by decide
theorem test_panel_byte : (after (.panelByteReceived 165 false) bank).pnl.receiver = .length := by decide

/-! ### The service line -/

/-- The BOOK frame of the manual's 11.6 is judged as the command, byte for byte, and its check byte is 200. -/
theorem test_book_frame : (ServiceCmd.book 40712 318204 2 (some 5)).frame = [10, 1, 0, 0, 159, 8, 4, 218, 252, 2, 5, 200]
    ∧ judgeService [10, 1, 0, 0, 159, 8, 4, 218, 252, 2, 5, 200] = .ok (.book 40712 318204 2 (some 5))
    ∧ judgeService [10, 1, 0, 0, 159, 8, 4, 218, 252, 2, 5, 201] = .error (.badSum 1) := ⟨by decide, rfl, rfl⟩
theorem test_book : (after (.book 40712 318204 2 (some 5)) bank).svl.inProgress = some ⟨1, false, .ok, [5]⟩
    ∧ ((after (.book 40712 318204 2 (some 5)) bank).locker 5).state = .booked
    ∧ (after (.book 40712 318204 4 none) bank).svl.inProgress = some ⟨1, false, .profileInvalid, []⟩ := by decide
theorem test_load : (after (.load false [40712]) (bankWith 5 booked)).svl.inProgress
      = some ⟨2, false, .notReady, [0, 0, 159, 8]⟩
    ∧ ((after (.load true [40712]) (bankWith 5 booked)).locker 5).loadedCold = true
    ∧ (after (.load true [40712]) (bankWith 5 booked)).bkc.remaining = 1 := by decide
theorem test_abort : ((after .abortLoad { bankWith 5 loading with bkc := ⟨true, [⟨40712, 5⟩], false, 1, 0⟩ }).locker 5).state
    = .booked := by decide
theorem test_cancel : ((after (.cancel 40712) (bankWith 5 booked)).locker 5).state = .free
    ∧ ((after (.cancel 40712) (bankWith 5 held)).locker 5).lockoutCause = some .cancelled := by decide
/-- R150, R151: the waiting entry of a cancelled ref leaves the chain, whatever locker it names. -/
theorem test_cancel_by_ref :
    (after (.cancel 40712) { bankWith 5 booked with bkc := ⟨true, [⟨300, 6⟩, ⟨40712, 12⟩, ⟨301, 8⟩], false, 3, 0⟩ }).bkc
      = ⟨true, [⟨300, 6⟩, ⟨301, 8⟩], false, 2, 0⟩ := by decide
theorem test_fetch : (after .fetch (fullBank bank)).svl.inProgress
    = some ⟨8, false, .ok, [0, 0, 0, 1, 2, 3, 129, 1, 44, 118, 0, 5, 0, 4]⟩ := by decide
theorem test_release : (after (.release 3) (fullBank bank)).ocl.records.length = 7 := by decide
theorem test_queries : (after .queryBank bank).svl.inProgress.map (fun r => r.fields.length) = some 23
    ∧ (after (.queryLocker 5 0) (bankWith 5 held)).svl.inProgress.map (fun r => r.fields.take 3) = some [5, 4, 2]
    ∧ (after (.queryOrder 1 0) (fullBank bank)).svl.inProgress = some ⟨5, false, .filed, []⟩ := by decide
theorem test_hide_show : ((after (.hideLocker 5) bank).locker 5).hidden = true
    ∧ ((after (.showLocker 5 0) (bankWith 5 { free with state := .out, hidden := true })).locker 5).state = .free
    ∧ ((after (.staffOpen 5) (bankWith 5 locked)).locker 5).state = .clearing := by decide
theorem test_discard : (after .frameDiscarded (after .queryBank bank)).svl.discarded = true
    ∧ (after .responseSent (after .queryBank bank)).svl.inProgress = none := by decide
/-- The answer to a BOOK of locker 5, the discarded flag set. -/
theorem test_service_response_bytes : (⟨1, true, .ok, [5]⟩ : ServiceResponse).bytes = [165, 3, 1, 128, 5, 210] := by decide
theorem test_service_byte : (after (.serviceByteReceived 165 false 0) bank).svl.receiver = .length := by decide

/-! ### For every statement with hypotheses, states and operands that meet them, clause by clause -/

theorem witness_StepTakesFront : ({ bank with pending := [.abandon, .reset] } : State).pending = .abandon :: [.reset] := rfl

theorem witness_IdleStep_time : (0 : Nat) < 1 ∧ (0 : Nat) < 20000 := by decide
theorem witness_IdleStep : bank.pending = [] ∧ State.reset.pending = [] := ⟨rfl, rfl⟩

/-- A state in which every timer of the statement runs. -/
def timersRun : State :=
  { bankWith 5 opened with
    fsc := { bank.fsc with shed := .releasing, releaseHold := some 9999 }
    pnl := { bank.pnl with
      claim := some 4, claimTimer := some 14999, throttled := true, missCount := 5, throttleTimer := some 0,
      receiver := .length, gapTimer := some 3 }
    svl := { bank.svl with receiver := .body, kept := [1], expected := 2, gapTimer := some 10 } }

theorem witness_TimersAndImpossibleEvents :
    (timersRun.locker 5).unlatchTimer = some 0 ∧ ((bankWith 5 (drawn opened)).locker 5).ajarTimer = some 0
    ∧ timersRun.hdf.windowTimer = some 0 ∧ timersRun.fsc.releaseHold = some 9999
    ∧ timersRun.pnl.claimTimer = some 14999 ∧ timersRun.pnl.throttleTimer = some 0 ∧ timersRun.pnl.gapTimer = some 3
    ∧ timersRun.svl.gapTimer = some 10
    ∧ (bank.locker 0).unlatchTimer = none ∧ (bank.locker 0).ajarTimer = none ∧ State.reset.hdf.windowTimer = none
    ∧ bank.fsc.releaseHold = none ∧ bank.pnl.claimTimer = none ∧ bank.pnl.throttleTimer = none
    ∧ bank.pnl.gapTimer = none ∧ bank.svl.gapTimer = none
    ∧ State.reset.running = false ∧ bank.fsc.shed ≠ .warned ∧ bank.pvt.station ≠ .starting
    ∧ ((bankWith 5 (drawn opened)).locker 5).doorShut = false ∧ (bank.locker 5).doorShut = true
    ∧ bank.hbp.sender ≠ .waiting ∧ (driving 7).hbp.path ≠ .ready ∧ bank.hbp.sender ≠ .arbitrating
    ∧ bank.hbp.onLine = false ∧ bank.hbp.path ≠ .inFrame ∧ bank.pnl.sending = none ∧ bank.svl.inProgress = none
    ∧ timersRun.overtaken = Overtaken.reset ∧ bank.overtaken = Overtaken.reset ∧ bank.hdf.currentSlot = none
    ∧ 78 < (driving 79).hbp.cellsReceived
    ∧ (1 ≤ (driving 4).hbp.cellsReceived ∧ (driving 4).hbp.cellsReceived ≤ 6 ∧ (driving 4).hbp.sentCell = true) := by
  decide
/-- Every expiry has been overtaken at this instant. -/
theorem witness_TimersAndImpossibleEvents_overtaken :
    let s : State := { bank with overtaken := ⟨true, true, true, true, true⟩ }
    s.overtaken.windowStart = true ∧ s.overtaken.slotBoundary = true ∧ s.overtaken.claim = true
    ∧ s.overtaken.panelGap = true ∧ s.overtaken.serviceGap = true := by decide

theorem witness_ImageChecksInOrder : image9.length = 250 ∧ image21.length = 250 := by decide +kernel

/-- A service response is still being sent, and locker 1 is to be hidden. -/
def imageHidden : List Byte :=
  (imageBody.set 19 2) ++ bytes2 (onesSum (wordsOf (imageBody.set 19 2)))

theorem witness_ReadCompletionEndsStarting : State.reset.pvt.station = .starting ∧ image9.length = 250
    ∧ judgeImage image21 = some .globalRange ∧ judgeImage image9 = none
    ∧ State.reset.svl.inProgress = none ∧ (after .queryBank State.reset).svl.inProgress ≠ none
    ∧ (after .queryBank State.reset).pvt.station = .starting
    ∧ imageHidden.length = 250 ∧ judgeImage imageHidden = none
    ∧ (configOfImage imageHidden).hideMask.getLsbD (1 : LockerNo).val = true
    ∧ (configOfImage image9).hideMask.getLsbD (0 : LockerNo).val = false ∧ (1 : Lines).getLsbD (0 : LockerNo).val = true
    ∧ (1 : Lines).getLsbD (15 : LockerNo).val = false := by decide +kernel

theorem witness_ActiveSegment : 59 < endOf profile3 1 ∧ 60 < endOf profile3 2 ∧ endOf profile3 1 ≤ 60
    ∧ (28979 < endOf profile3 12 ∧ endOf profile3 11 ≤ 28979) ∧ endOf profile3 12 ≤ 28980
    ∧ (∀ b : Fin 4, ({ profile3 with bandCode := b } : Profile).bandCode = b) := by decide

theorem witness_ScanWithoutSupervision : bank.running = true
    ∧ ((bank.locker 5).state ≠ .booked ∧ (bank.locker 5).state ≠ .holding ∧ (bank.locker 5).state ≠ .opened)
    ∧ ((bankWith 5 booked).locker 5).state = .booked ∧ (bankWith 5 booked).running = true
    ∧ readingOf (.valid 189) (.valid 189) (.valid 189) = .valid 189 ∧ (189 : Fin 255).val < (bankWith 5 booked).cfg.overtemp
    ∧ readingOf (.valid 190) (.valid 190) .fault = .valid 190 ∧ (bankWith 5 booked).cfg.overtemp ≤ (190 : Fin 255).val
    ∧ readingOf ((bankWith 5 booked).locker 5).ring1 ((bankWith 5 booked).locker 5).ring2 (.valid 1) = .fault
    ∧ (let l := ((bankWith 5 { booked with ring1 := .valid 190, ring2 := .valid 190 }).locker 5)
      readingOf l.ring1 l.ring2 .fault = .valid 190)
    ∧ (let l := ((bankWith 5 { booked with ring1 := .valid 189, ring2 := .valid 189 }).locker 5)
      readingOf l.ring1 l.ring2 .fault = .valid 189) := by decide

/-- The profile of the scan witnesses is profile 3: hold limit 5400 s, grace 120 s. -/
theorem witness_ScanUnderSupervision :
    (bankWith 5 held).running = true ∧ ((bankWith 5 held).locker 5).state = .holding
    ∧ ((bankWith 5 opened).locker 5).state = .opened
    ∧ 60 * ((bankWith 5 held).profileOf ((bankWith 5 held).locker 5)).holdLimit = 5400
    ∧ 30 * ((bankWith 5 held).profileOf ((bankWith 5 held).locker 5)).graceCode.val = 120
    -- no cause: 1001 s held, no run below the floor, no FAULT reading
    ∧ (min 65535 (((bankWith 5 held).locker 5).holdElapsed + 1) < 5400
      ∧ readingOf ((bankWith 5 held).locker 5).ring1 ((bankWith 5 held).locker 5).ring2 (.valid 124) = .valid 125)
    -- EXPIRED at the scan that brings 5400
    ∧ 5400 ≤ min 65535 (((bankWith 5 { held with holdElapsed := 5399 }).locker 5).holdElapsed + 1)
    ∧ 5400 ≤ min 65535 (((bankWith 5 { opened with holdElapsed := 5399 }).locker 5).holdElapsed + 1)
    -- COLD at a run of 121 s
    ∧ (readingOf (.valid 123) (.valid 123) (.valid 123) = .valid 123
      ∧ (123 : Fin 255).val < floorOf ((bankWith 5 held).profileOf ((bankWith 5 held).locker 5))
      ∧ 120 < min 65535 (((bankWith 5 { held with belowRun := 120 }).locker 5).belowRun + 1))
    -- SENSOR at the thirtieth FAULT reading
    ∧ (readingOf ((bankWith 5 { held with ring2 := .fault }).locker 5).ring1
        ((bankWith 5 { held with ring2 := .fault }).locker 5).ring2 .fault = .fault
      ∧ 30 ≤ min 65535 (((bankWith 5 { held with faultRun := 29 }).locker 5).faultRun + 1)) := by decide

theorem witness_LockoutEndsTheBooking : BookingEnd.tamper ≠ .collected ∧ (bankWith 5 held).ocl.records.length < 8
    ∧ 8 ≤ (fullBank (bankWith 5 held)).ocl.records.length ∧ ((fullBank (bankWith 5 held)).locker 5).state = .holding := by
  decide

theorem witness_CallClassAndRequest :
    -- each of the four losses, by itself
    (loading.state ≠ .booked ∧ loading.state ≠ .holding) ∧ (forced booked).doorShut = false
    ∧ ({ held with reading := .fault } : Locker).reading = .fault
    ∧ (({ held with reading := .valid 190 } : Locker).reading = .valid 190 ∧ bank.cfg.overtemp ≤ (190 : Fin 255).val)
    -- eligible: a rescue at floor + 3, a call by the band, none
    ∧ (held.state = .holding ∧ held.doorShut = true ∧ held.reading = .valid 126 ∧ (126 : Fin 255).val < bank.cfg.overtemp
      ∧ (126 : Fin 255).val < floorOf (bank.profileOf held) + 4)
    ∧ (booked.state = .booked ∧ booked.doorShut = true ∧ booked.reading = .valid 146
      ∧ (144 : Fin 255).val + lowerMargin (bank.profileOf booked) < setpointOf (bank.profileOf booked) 0
      ∧ setpointOf (bank.profileOf booked) 0 + upperMargin (bank.profileOf booked) ≤ (150 : Fin 255).val) := by decide

theorem witness_TimedWindowStartEffect :
    ({ bank with hdf := { bank.hdf with windowTimer := some 2000 } } : State).running = true
    ∧ ({ bank with hdf := { bank.hdf with windowTimer := some 2000 } } : State).hdf.windowTimer = some 2000
    ∧ 2000 ≤ 2000
    ∧ ({ bank with hdf := { bank.hdf with windowTimer := some 2000 } } : State).overtaken.windowStart = false := by decide

theorem witness_FillServesInOrder : ([⟨1, 3, 5, 7⟩, ⟨2, 1, 4, 9⟩] : List FillItem) = [⟨1, 3, 5, 7⟩] ++ ⟨2, 1, 4, 9⟩ :: [] :=
  rfl
theorem witness_FillServesInOrder_items :
    let s := (bank.setLocker 5 { held with cls := .class1, request := 7 }).setLocker 8
      { booked with cls := .class3, request := 2 }
    s.fillItems = [⟨5, 1, 3, 7⟩, ⟨8, 3, 3, 2⟩]
    ∧ (s.locker 5).reading = .valid 126 ∧ (s.locker 5).state = .holding
    ∧ (s.locker 8).reading = .valid 146 ∧ (s.locker 8).state = .booked
    ∧ (([⟨2, 9⟩, ⟨4, 16⟩] : List Grant).map Grant.locker).Nodup
    ∧ (0 : LockerNo) ∉ ([⟨2, 9⟩, ⟨4, 16⟩] : List Grant).map Grant.locker := by decide
theorem witness_CallClassAndRequest_demand :
    ((bank.setLocker 5 { held with cls := .class1, request := 7 }).setLocker 8
      { booked with cls := .class3, request := 2 }).ownDemand = ⟨140, 0, 40⟩ := by decide

theorem witness_PackPlacesEveryDuty :
    (([⟨2, 9⟩, ⟨4, 16⟩, ⟨3, 16⟩, ⟨5, 7⟩] : List Grant).map Grant.locker).Nodup
    ∧ (∀ g ∈ ([⟨2, 9⟩, ⟨4, 16⟩, ⟨3, 16⟩, ⟨5, 7⟩] : List Grant), g.duty ≤ 16)
    ∧ dutySum [⟨2, 9⟩, ⟨4, 16⟩, ⟨3, 16⟩, ⟨5, 7⟩] ≤ 16 * 3
    ∧ (0 : LockerNo) ∉ ([⟨2, 9⟩, ⟨4, 16⟩, ⟨3, 16⟩, ⟨5, 7⟩] : List Grant).map Grant.locker := by decide

/-- The last place of a layer, the first of the next, and places beyond the run of 48. -/
theorem witness_PackPlacesEveryDuty_places :
    let run := packRun [⟨2, 9⟩, ⟨4, 16⟩, ⟨3, 16⟩, ⟨5, 6⟩]
    run[16 * 0 + 15]? = some 4 ∧ run[16 * 1 + 0]? = some 4 ∧ run[16 * 2 + 14]? = some 5 ∧ run[16 * 2 + 15]? = none := by
  decide
theorem witness_SlotBoundarySwitches :
    ({ bank with hdf := { bank.hdf with currentSlot := some 14 } } : State).hdf.currentSlot = some 14
    ∧ ({ bank with hdf := { bank.hdf with currentSlot := some 14 } } : State).hdf.windowTimer = some 0
    ∧ (15 : Fin 16).val = (14 : Fin 16).val + 1 ∧ (15 : Fin 16).val = 15
    ∧ ({ bank with hdf := { bank.hdf with currentSlot := some 15 } } : State).hdf.currentSlot = some 15
    ∧ bank.hdf.currentSlot = none ∧ bank.hdf.windowTimer = some 0 ∧ bank.overtaken.slotBoundary = false := by decide

theorem witness_AllowanceByStation : bank.pvt.station = .joined ∧ branchEffective config9 = some 2000
    ∧ branchEffective { config9 with localLimit := 3 } = none
    ∧ ({ bank.pvt with station := .isolated } : Pvt).station = .isolated
    ∧ ({ bank.pvt with station := .listening } : Pvt).station = .listening := by decide

theorem witness_FeederWarnAssertionEffect : State.reset.running = false ∧ bank.running = true ∧ bank.fsc.shed = .clear
    ∧ ({ bank with fsc := { bank.fsc with shed := .releasing } } : State).running = true
    ∧ ({ bank with fsc := { bank.fsc with shed := .liftDue } } : State).fsc.shed = .liftDue
    ∧ ({ bank with fsc := { bank.fsc with shed := .warned } } : State).fsc.shed = .warned
    ∧ ({ bank with hdf := { bank.hdf with windowTimer := some 2000 } } : State).hdf.windowTimer = some 2000 := by decide

theorem witness_FeederWarnReleaseStartsTheHold :
    ({ bank with fsc := { bank.fsc with shed := .warned } } : State).running = true
    ∧ ({ bank with fsc := { bank.fsc with shed := .warned } } : State).fsc.shed = .warned := by decide

theorem witness_ReleaseHoldExpiryMakesLiftDue :
    ({ bank with fsc := { bank.fsc with shed := .releasing, releaseHold := some 10000 } } : State).fsc.releaseHold
      = some 10000
    ∧ ({ bank with fsc := { bank.fsc with shed := .releasing, releaseHold := some 10000 } } : State).running = true
    ∧ ({ bank with fsc := { bank.fsc with shed := .releasing, releaseHold := some 10000 } } : State).fsc.shed
      = .releasing := by decide

theorem witness_DoorOpenByState :
    (∀ l ∈ [{ free with state := .out }, free, locked, filing, booked, held, loading, opened, clearing],
      ((bankWith 5 l).locker 5).doorShut = true ∧ ((bankWith 5 l).locker 5).ajar = false
      ∧ ((bankWith 5 l).locker 5).state = l.state) := by decide

/-- Records that satisfy the latch law, one for each close. -/
theorem witness_latchLaw : ∀ l ∈ [forced free, forced filing, forced booked, forced locked, drawn loading, drawn opened,
      drawn clearing, { free with state := .out, doorShut := false }],
    l.LatchLaw ∧ l.doorShut = false := by
  intro l hl
  simp only [List.mem_cons, List.not_mem_nil, or_false] at hl
  rcases hl with h | h | h | h | h | h | h | h <;> subst h <;>
    exact ⟨⟨by decide, by decide, by decide, by decide, by decide, by decide⟩, rfl⟩

theorem witness_DoorCloseAfterForcedOpening :
    ((bankWith 5 (forced free)).locker 5).tamper = true ∧ ((bankWith 5 (forced free)).locker 5).state = .free
    ∧ ((bankWith 5 (forced filing)).locker 5).tamper = true ∧ ((bankWith 5 (forced filing)).locker 5).state = .filing
    ∧ ((bankWith 5 (forced booked)).locker 5).tamper = true ∧ ((bankWith 5 (forced booked)).locker 5).state = .booked
    ∧ ((bankWith 5 (forced locked)).locker 5).tamper = true ∧ ((bankWith 5 (forced locked)).locker 5).state = .lockout
    ∧ ({ free with state := .out, doorShut := false } : Locker).tamper = false
    ∧ ({ free with state := .out, doorShut := false } : Locker).latch = .locked
    ∧ (bankWith 5 (forced free)).locker 5 = forced free := by decide

theorem witness_DoorCloseInReleasedStates :
    (bankWith 5 (drawn loading)).locker 5 = drawn loading ∧ (drawn loading).state = .loading
    ∧ (bankWith 5 (drawn opened)).locker 5 = drawn opened ∧ (drawn opened).state = .opened
    ∧ (drawn opened).deferredCause = none
    ∧ ({ drawn opened with deferredCause := some .sensor } : Locker).deferredCause = some .sensor
    ∧ (bankWith 5 (drawn opened)).ocl.records.length < 8
    ∧ 8 ≤ (fullBank (bankWith 5 (drawn opened))).ocl.records.length
    ∧ (bankWith 5 (drawn clearing)).locker 5 = drawn clearing ∧ (drawn clearing).state = .clearing
    ∧ (drawn clearing).recordPending = false
    ∧ ({ drawn clearing with recordPending := true } : Locker).recordPending = true := by decide

theorem witness_LockerTimersExpire :
    (∀ l ∈ [loading, opened, { opened with deferredCause := some .cold }, clearing],
      ((bankWith 5 { l with unlatchTimer := some 20000 }).locker 5).unlatchTimer = some 20000
      ∧ ((bankWith 5 { l with unlatchTimer := some 20000 }).locker 5).state = l.state
      ∧ ((bankWith 5 { l with unlatchTimer := some 20000 }).locker 5).deferredCause = l.deferredCause)
    ∧ ((bankWith 5 { drawn opened with ajarTimer := some 120000 }).locker 5).ajarTimer = some 120000 := by decide

theorem witness_ChainTurnPassesOver :
    -- both entries are passed over; the first is passed over and the second has its turn
    ([⟨7, 3⟩, ⟨8, 4⟩] : List ChainEntry).dropWhile (fun e => !(decide (((bankWith 5 booked).locker e.locker).state = .booked)
      && decide (((bankWith 5 booked).locker e.locker).orderRef = some e.ref))) = []
    ∧ ([⟨7, 3⟩, ⟨40712, 5⟩] : List ChainEntry).dropWhile (fun e =>
        !(decide (((bankWith 5 booked).locker e.locker).state = .booked)
          && decide (((bankWith 5 booked).locker e.locker).orderRef = some e.ref))) = ⟨40712, 5⟩ :: [] := by decide

/-- A non-urgent frame. -/
def frame35 : DemandFrame := ⟨true, 3, ⟨0, 0, 0⟩, 16, 0⟩

theorem witness_AttemptBegins : waitingBank.hbp.path = .ready ∧ waitingBank.hbp.sender = .waiting
    ∧ waitingBank.hbp.slot = some frame6 ∧ waitingBank.hbp.cellsReceived = 0 ∧ waitingBank.hbp.cells = []
    ∧ frame6.urgency = false ∧ frame35.urgency = true ∧ waitingBank.hbp.attemptCount < 15
    ∧ 15 ≤ ({ waitingBank with hbp := { waitingBank.hbp with attemptCount := 15 } } : State).hbp.attemptCount := by decide

theorem witness_FallingEdgeTakesACell :
    State.reset.hbp.path = .off ∧ ({ bank.hbp with path := .syncing } : Hbp).path = .syncing
    ∧ (after .framingError (receiving 3)).hbp.path = .skipping
    ∧ (bank.hbp.path = .ready ∧ bank.hbp.sender = .idle ∧ bank.hbp.cellsReceived = 0 ∧ bank.hbp.cells = [])
    ∧ ((receiving 77).hbp.path = .inFrame ∧ (receiving 77).hbp.sender = .idle
      ∧ (receiving 77).hbp.cells.length = (receiving 77).hbp.cellsReceived ∧ (receiving 77).hbp.cellsReceived + 1 ≤ 78)
    ∧ ((receiving 78).hbp.path = .inFrame ∧ 79 ≤ (receiving 78).hbp.cellsReceived + 1)
    ∧ (∀ k ∈ [3, 6, 77], (driving k).hbp.path = .inFrame ∧ (driving k).hbp.onLine = true
      ∧ (driving k).hbp.driven = some frame6 ∧ (driving k).hbp.cells.length = (driving k).hbp.cellsReceived
      ∧ (driving k).hbp.cellsReceived + 1 ≤ 78)
    ∧ (frame6.cells.getD 3 true = true ∧ (3 + 1) ≤ 6) ∧ (frame6.cells.getD 6 true = false ∧ 7 ≤ 6 + 1)
    ∧ (frame6.cells.getD 0 true = false ∧ (driving 0).hbp.onLine = true) := by decide

theorem witness_LostAndErroredAttempts :
    (driving 4).hbp.sender = .arbitrating ∧ 1 ≤ (driving 4).hbp.cellsReceived ∧ (driving 4).hbp.cellsReceived ≤ 6
    ∧ (driving 4).hbp.sentCell = true
    ∧ (driving 7).hbp.onLine = true ∧ 7 ≤ (driving 7).hbp.cellsReceived ∧ (driving 78).hbp.cellsReceived ≤ 78
    ∧ (driving 1).hbp.onLine = true ∧ (driving 1).hbp.sentCell = false
    ∧ (driving 7).hbp.path = .inFrame ∧ (receiving 7).hbp.path = .inFrame ∧ (receiving 7).hbp.onLine = false
    ∧ (driving 7).hbp.attemptFrame = .current ∧ (driving 7).hbp.attemptCount < 15
    ∧ ({ (driving 7).hbp with attemptFrame := .superseded } : Hbp).attemptFrame ≠ .current
    ∧ 15 ≤ ({ (driving 7).hbp with attemptCount := 15 } : Hbp).attemptCount
    ∧ ((driving 79).hbp.onLine = true ∧ (driving 79).hbp.path = .inFrame) := by decide

theorem witness_FrameEndCompletesAttempt : (driving 78).hbp.path = .inFrame ∧ (driving 78).hbp.onLine = true
    ∧ 78 ≤ (driving 78).hbp.cellsReceived ∧ (driving 78).hbp.attemptFrame = .current
    ∧ ({ (driving 78).hbp with attemptFrame := .superseded } : Hbp).attemptFrame ≠ .current := by decide

/-- A frame received whole. -/
def received (f : DemandFrame) : State :=
  { bank with hbp := { bank.hbp with path := .inFrame, cellsReceived := 78, cells := f.cells } }

theorem witness_FrameEndHandsOnOrDiscards :
    State.reset.hbp.path = .off ∧ bank.hbp.path = .ready ∧ ({ bank.hbp with path := .syncing } : Hbp).path = .syncing
    ∧ (after .framingError (receiving 3)).hbp.path = .skipping
    ∧ ((receiving 77).hbp.path = .inFrame ∧ (receiving 77).hbp.onLine = false ∧ (receiving 77).hbp.cellsReceived ≠ 78)
    ∧ (DemandFrame.ofCells (frame6.cells.set 0 (!frame6.urgency))).checkWord ≠ checkOfCells (frame6.cells.set 0 (!frame6.urgency))
    ∧ (∀ n ∈ [9, 19, 20], ((received { frame6 with station := n }).hbp.cellsReceived = 78
      ∧ (received { frame6 with station := n }).hbp.path = .inFrame
      ∧ (received { frame6 with station := n }).hbp.onLine = false
      ∧ (DemandFrame.ofCells (received { frame6 with station := n }).hbp.cells).checkWord
        = checkOfCells (received { frame6 with station := n }).hbp.cells
      ∧ (DemandFrame.ofCells (received { frame6 with station := n }).hbp.cells).station = n))
    ∧ (bank.cfg.station = 9 ∧ bank.cfg.globalBase ≤ 19 ∧ 19 ≤ bank.cfg.globalLimit ∧ ¬ 20 ≤ bank.cfg.globalLimit)
    ∧ ((driving 7).hbp.path = .inFrame ∧ (driving 7).hbp.onLine = true ∧ (driving 7).hbp.cellsReceived < 78)
    ∧ ([⟨3, ⟨1, 2, 3⟩, 4, false, 0⟩, ⟨6, ⟨1, 2, 3⟩, 4, false, 2⟩] : List Peer).Pairwise
      (fun p q => p.station < q.station) := by decide +kernel

/-- Any 78 cells may be received, those with a check word that does not fit among them. -/
theorem witness_DemandFrameCellsRoundTrip_cells : (List.replicate 78 true).length = 78 ∧ frame6.cells.length = 78 := by
  decide
theorem witness_DemandFrameCellsRoundTrip : frame6.station < 32 ∧ frame6.demand.d1 < 65536 ∧ frame6.demand.d2 < 65536
    ∧ frame6.demand.d3 < 65536 ∧ frame6.free < 32 ∧ frame6.pad < 8
    ∧ (let f : DemandFrame := ⟨true, 31, ⟨65535, 65535, 65535⟩, 31, 7⟩
      f.station < 32 ∧ f.demand.d1 < 65536 ∧ f.demand.d2 < 65536 ∧ f.demand.d3 < 65536 ∧ f.free < 32 ∧ f.pad < 8) := by
  decide

/-- The bank with `k` misses counted. -/
def missed (k : Nat) (s : State) : State := { s with pnl := { s.pnl with missCount := k } }
/-- The bank throttled since `v` ms. -/
def throttled (v : Nat) : State :=
  { bank with pnl := { bank.pnl with missCount := 5, throttled := true, throttleTimer := some v } }

theorem witness_PresentAnswers : bank.running = true ∧ bank.pnl.sending = none
    ∧ (∀ v ∈ [0, 59999, 60000], (throttled v).pnl.throttled = true ∧ (throttled v).pnl.throttleTimer = some v ∧ v ≤ 60000)
    ∧ (bank.pnl.throttled = false ∧ (∀ n, (bank.locker n).pickupCode ≠ some 318204))
    ∧ ((missed 3 bank).pnl.missCount < 4 ∧ (missed 4 bank).pnl.missCount = 4)
    ∧ (∀ l ∈ [held, booked, loading, opened, { locked with orderRef := some 40712, pickupCode := some 318204 },
        { clearing with orderRef := some 40712, pickupCode := some 318204 }, filing],
      (∀ m, ((bankWith 5 l).locker m).pickupCode = some 318204 ↔ m = 5) ∧ (bankWith 5 l).pnl.throttled = false
      ∧ ((bankWith 5 l).locker 5).state = l.state) := by decide

theorem witness_ConfirmOpensTheClaimedLocker :
    let s := { bankWith 5 held with pnl := { bank.pnl with claim := some 5, claimTimer := some 0 } }
    s.running = true ∧ s.pnl.sending = none ∧ (5 : Byte).toNat = (5 : LockerNo).val ∧ s.pnl.claim = some 5
    ∧ (s.locker 5).state = .holding ∧ (6 : Byte).toNat ≠ (5 : LockerNo).val ∧ bank.pnl.claim = none := by decide

theorem witness_AbandonBreaksTheClaim : bank.running = true ∧ bank.pnl.sending = none ∧ bank.pnl.claim = none
    ∧ bank.pnl.claimTimer = none := by decide

theorem witness_PresentStaffAnswers : bank.running = true ∧ bank.pnl.sending = none
    ∧ (∀ v ∈ [0, 60000], (throttled v).pnl.throttled = true ∧ (throttled v).pnl.throttleTimer = some v ∧ v ≤ 60000)
    ∧ bank.pnl.throttled = false ∧ (1 : Code) ≠ bank.cfg.staffCode ∧ (missed 3 bank).pnl.missCount < 4
    ∧ (missed 4 bank).pnl.missCount = 4 ∧ (900324 : Code) = bank.cfg.staffCode ∧ 16 ≤ (16 : Byte).toNat
    ∧ (15 : Byte).toNat = (15 : LockerNo).val ∧ (bank.locker 15).state ≠ .lockout
    ∧ ((bankWith 15 locked).locker 15).state = .lockout := by decide

/-- The panel receiver has kept some bytes of a frame. -/
def panelKept (kept : List Byte) : State :=
  { bank with pnl := { bank.pnl with receiver := .body, kept := kept, expected := 1, gapTimer := some 10 } }
/-- The service receiver has kept some bytes of a frame. -/
def serviceKept (kept : List Byte) : State :=
  { bank with svl := { bank.svl with receiver := .body, kept := kept, expected := 1, gapTimer := some 10 } }

theorem witness_PanelFramesAndTimers : bank.running = true ∧ bank.pnl.sending = none
    ∧ (after .abandon bank).pnl.sending ≠ none ∧ timersRun.pnl.claimTimer = some 14999
    ∧ (timersRun.advance 1).pnl.claimTimer = some 15000 ∧ (throttled 60000).pnl.throttleTimer = some 60000
    ∧ (timersRun.pnl.receiver = .length ∧ (timersRun.advance 7).pnl.gapTimer = some 10)
    ∧ ((panelKept [2]).pnl.receiver = .body ∧ (panelKept [2]).pnl.kept.length < 2
      ∧ (panelKept [2]).pnl.gapTimer = some 10)
    ∧ (panelKept [2, 2]).pnl.kept = 2 :: 2 :: [] ∧ timersRun.overtaken.claim = false
    ∧ (panelKept [2]).overtaken.panelGap = false := by decide

theorem witness_PanelReceiverTakesBytes : bank.pnl.receiver = .hunting ∧ (164 : Byte) ≠ 165
    ∧ timersRun.pnl.receiver = .length ∧ 1 ≤ (5 : Byte).toNat ∧ (5 : Byte).toNat ≤ 5 ∧ (0 : Byte).toNat = 0
    ∧ 6 ≤ (6 : Byte).toNat
    ∧ ({ (panelKept [2]) with pnl := { (panelKept [2]).pnl with expected := 2 } } : State).pnl.expected = 2
    ∧ (panelKept [1, 3]).pnl.expected = 1 ∧ (panelKept [1, 3]).pnl.receiver = .body
    ∧ (panelKept [2]).pnl.kept.length < 2 := by decide
theorem witness_PanelReceiverJudges : judgePanel ((panelKept [1, 3]).pnl.kept ++ [87]) = .ok .abandon
    ∧ judgePanel ((panelKept [1, 3]).pnl.kept ++ [88]) = .error (.badSum 3) := ⟨rfl, rfl⟩

theorem witness_BookChecksAndAssigns : bank.running = true ∧ bank.svl.inProgress = none
    -- order 1: ref 0; the others at the bounds of their ranges
    ∧ ¬ ((0 : OrderRef) ≠ 0) ∧ (999999 : Code).toNat ≤ 999999 ∧ (7 : Byte).toNat ≤ 7 ∧ (15 : Byte).toNat ≤ 15
    ∧ ¬ (1000000 : Code).toNat ≤ 999999 ∧ ¬ (8 : Byte).toNat ≤ 7 ∧ ¬ (16 : Byte).toNat ≤ 15
    -- order 2: profile 4 is not valid, profile 3 is
    ∧ bank.slots[(4 : ProfileNo)].valid = false ∧ bank.slots[(3 : ProfileNo)].valid = true
    -- orders 3 and 4
    ∧ ((bankWith 5 booked).locker 5).orderRef = some 40712 ∧ (fullBank bank).ocl.records.any (fun r => r.ref == 8) = true
    ∧ ((bankWith 5 booked).locker 5).pickupCode = some 318204 ∧ (900324 : Code) = bank.cfg.staffCode
    ∧ (∀ n, (bank.locker n).orderRef ≠ some 1 ∧ (bank.locker n).pickupCode ≠ some 1) ∧ bank.ocl.records = []
    -- order 5: a preferred FREE locker, the first of the ranking, none FREE
    ∧ (some 5 : Option Byte) = some (BitVec.ofNat 8 (5 : LockerNo).val) ∧ (bank.locker 5).state = .free
    ∧ (bank.locker 0).state = .free
    ∧ (∀ n, (({ bank with lockers := Vector.replicate 16 locked } : State).locker n).state ≠ .free)
    ∧ bank.pvt.peers = [] ∧ (after .frameEnd (receiving 78)).pvt.peers.map Peer.free = [9] := by decide

theorem witness_LoadChecksAndStartsTheChain : (bankWith 5 booked).running = true ∧ (bankWith 5 booked).svl.inProgress = none
    ∧ ({ bank with bkc := ⟨true, [⟨40712, 5⟩], false, 1, 0⟩ } : State).bkc.active = true
    ∧ (bankWith 5 booked).bkc.active = false ∧ ([] : List OrderRef).length = 0
    ∧ 9 ≤ (List.replicate 9 (1 : OrderRef)).length
    ∧ (bankWith 5 booked).holderOf 40712 = some 5 ∧ ((bankWith 5 booked).locker 5).state = .booked
    ∧ (bankWith 5 booked).ready ((bankWith 5 booked).locker 5) = false
    ∧ (bankWith 5 { booked with reading := .valid 147 }).ready ((bankWith 5 { booked with reading := .valid 147 }).locker 5)
      = true
    ∧ (bankWith 5 booked).holderOf 1 = none
    ∧ (bankWith 5 held).holderOf 40712 = some 5 ∧ ((bankWith 5 held).locker 5).state ≠ .booked
    ∧ ([40712, 40712] : List OrderRef) = [40712] ++ 40712 :: [] ∧ (40712 : OrderRef) ∈ ([40712] : List OrderRef)
    ∧ ((bankWith 5 booked).locker 5).profile = some 3 ∧ (bankWith 5 booked).slots[(3 : ProfileNo)].body = some profile3 := by
  decide

theorem witness_AbortLoadEndsTheVisit : bank.running = true ∧ bank.svl.inProgress = none ∧ bank.bkc.entries = []
    ∧ (({ bankWith 5 loading with bkc := ⟨true, [⟨40712, 5⟩], false, 1, 0⟩ } : State).locker 5).state = .loading
    ∧ ((bankWith 5 loading).locker 5).unlatchTimer ≠ none ∧ ((bankWith 5 (drawn loading)).locker 5).unlatchTimer = none := by
  decide

theorem witness_CancelByState : bank.running = true ∧ bank.svl.inProgress = none ∧ bank.holderOf 40712 = none
    ∧ (∀ l ∈ [booked, held, loading, opened, filing, { locked with orderRef := some 40712 },
        { clearing with orderRef := some 40712 }],
      (bankWith 5 l).holderOf 40712 = some 5 ∧ ((bankWith 5 l).locker 5).state = l.state) := by decide

theorem witness_QueriesAndFetchOnlyReport : bank.running = true ∧ bank.svl.inProgress = none
    ∧ (15 : Byte).toNat = (15 : LockerNo).val ∧ 16 ≤ (16 : Byte).toNat ∧ (bankWith 5 held).holderOf 40712 = some 5
    ∧ (fullBank bank).holderOf 8 = none ∧ (fullBank bank).ocl.records.any (fun r => r.ref == 8) = true
    ∧ bank.holderOf 0 = none ∧ bank.ocl.records = []
    ∧ (fullBank bank).ocl.records.head? = some (record 1) ∧ (record 1).stats = some ⟨300, some 118, 5, 4⟩
    ∧ ({ record 1 with stats := none } : OutcomeRecord).stats = none := by decide

theorem witness_ReleaseRemovesAndFiles : bank.running = true ∧ bank.svl.inProgress = none
    ∧ (∀ r ∈ bank.ocl.records, r.ref ≠ 1)
    ∧ (fullBank bank).ocl.records
      = [record 1, record 2] ++ record 3 :: [record 4, record 5, record 6, record 7, record 8]
    ∧ (record 3).ref = 3 ∧ (∀ x ∈ [record 1, record 2], x.ref ≠ 3) ∧ (fullBank bank).filing = []
    ∧ ({ fullBank (bankWith 5 filing) with filing := [⟨5, record 40712⟩] } : State).filing = ⟨5, record 40712⟩ :: [] := by
  decide

theorem witness_HideShowAndStaffOpen : bank.running = true ∧ bank.svl.inProgress = none ∧ 16 ≤ (16 : Byte).toNat
    ∧ (15 : Byte).toNat < 16 ∧ (15 : Byte).toNat = (15 : LockerNo).val ∧ bank.cfg.hideLock = false
    ∧ ({ bank with cfl := { bank.cfl with config := some { config9 with hideLock := true } } } : State).cfg.hideLock = true
    ∧ ({ free with state := .out, hidden := true } : Locker).state = .out ∧ held.state ≠ .free
    ∧ (forced free).doorShut = false ∧ (bank.locker 15).state = .free ∧ (bank.locker 15).doorShut = true
    ∧ (0x8000 : Lines).getLsbD (15 : LockerNo).val = true ∧ (0 : Lines).getLsbD (15 : LockerNo).val = false
    ∧ ((bankWith 15 locked).locker 15).state = .lockout := by decide

theorem witness_ServiceFramesAndTimers : bank.svl.inProgress = none ∧ (after .fetch bank).svl.inProgress ≠ none
    ∧ (after .fetch bank).svl.pendingRate = none
    ∧ (let s := { after .fetch bank with svl := { (after .fetch bank).svl with pendingRate := some .r57600 } }
      s.svl.inProgress ≠ none ∧ s.svl.pendingRate = some .r57600)
    ∧ (({ bank with svl := { bank.svl with receiver := .length, gapTimer := some 10 } } : State).svl.gapTimer = some 10)
    ∧ ((serviceKept [1]).svl.receiver = .body ∧ (serviceKept [1]).svl.kept.length < 2
      ∧ (serviceKept [1]).svl.gapTimer = some 10)
    ∧ (serviceKept [1, 7]).svl.kept = 1 :: 7 :: [] ∧ (serviceKept [1]).overtaken.serviceGap = false := by decide

theorem witness_ServiceReceiverTakesBytes : bank.svl.receiver = .hunting ∧ (164 : Byte) ≠ 165
    ∧ ({ bank with svl := { bank.svl with receiver := .length, gapTimer := some 10 } } : State).svl.receiver = .length
    ∧ 1 ≤ (39 : Byte).toNat ∧ (39 : Byte).toNat ≤ 39 ∧ (0 : Byte).toNat = 0 ∧ 40 ≤ (40 : Byte).toNat
    ∧ ({ (serviceKept [1]) with svl := { (serviceKept [1]).svl with expected := 2 } } : State).svl.expected = 2
    ∧ (serviceKept [1, 7]).svl.expected = 1 ∧ (serviceKept [1, 7]).svl.receiver = .body := by decide
theorem witness_ServiceReceiverJudges : judgeService ((serviceKept [1, 7]).svl.kept ++ [83]) = .ok .queryBank
    ∧ judgeService ((serviceKept [1, 7]).svl.kept ++ [84]) = .error (.badSum 7) := ⟨rfl, rfl⟩

theorem witness_FramesAreJudgedAsSent : (ServiceCmd.load true (List.replicate 9 1)).wellFormed = true := by decide
/-- A frame for each judgement, the kept bytes being length, code, fields and check byte. -/
theorem witness_FramesAreJudgedAsSent_errors :
    (165 + (([1, 7, 84] : List Byte).map BitVec.toNat).sum) % 256 ≠ 0
    ∧ (∀ kept ∈ ([[1, 13, 77], [1, 0, 90], [1, 7, 83], [2, 7, 0, 82], [4, 2, 1, 0, 84], [1, 5, 85], [1, 3, 87], [1, 1, 89]]
        : List (List Byte)), (165 + (kept.map BitVec.toNat).sum) % 256 = 0)
    ∧ 12 < (13 : Byte).toNat ∧ 4 < (5 : Byte).toNat ∧ (List.replicate 38 (0 : Byte)).length ≤ 38 := by decide

theorem witness_ConfigFaultWhileNotRunning : State.reset.running = false ∧ State.reset.svl.inProgress = none
    ∧ State.reset.pvt.station = .starting ∧ State.reset.pnl.sending = none ∧ ServiceCmd.fetch ≠ .queryBank
    ∧ ({ State.reset with pvt := { Pvt.reset with station := .halted } } : State).running = false
    ∧ ({ State.reset with pvt := { Pvt.reset with station := .halted } } : State).pvt.station = .halted := by decide

/-! ### A running bank that satisfies every law -/

/-- Locker 5 is held and claimed, locker 6 is the chain's current one, locker 7 waits for its record to be filed, and
locker 8 is heated in slot 0 of a plan with one layer. -/
def sound : State :=
  { (((bank.setLocker 5 held).setLocker 6 { loading with orderRef := some 300, pickupCode := some 3 }).setLocker 7
      { filing with orderRef := some 77, pickupCode := some 4 }).setLocker 8
      { booked with orderRef := some 301, pickupCode := some 5, request := 2, duty := 2, heaterOn := true } with
    hdf := ⟨1, 16, [[some 8, some 8] ++ List.replicate 14 none], some 0, some 0⟩
    pvt := { bank.pvt with peers := [⟨6, ⟨225, 700, 475⟩, 9, true, 2⟩, ⟨12, ⟨0, 0, 0⟩, 16, false, 0⟩] }
    pnl := { bank.pnl with claim := some 5, claimTimer := some 14999 }
    bkc := ⟨true, [⟨300, 6⟩, ⟨301, 8⟩], false, 2, 0⟩
    ocl := (fullBank bank).ocl
    filing := [⟨7, record 77⟩] }

theorem witness_step_of_sound : ∃ t, step sound = .next t := ⟨_, rfl⟩
theorem witness_StationLaw : sound.StationLaw := ⟨fun h => absurd h (by decide), fun _ => by decide⟩
/-- An indicator that shows its pattern, and one that does not. -/
theorem witness_LatchLaw_pattern : held.indicator = held.pattern ∧ (forced free).indicator = (forced free).pattern
    ∧ ({ free with indicator := .fast } : Locker).indicator ≠ free.pattern ∧ free.indicator = .off
    ∧ held.indicator = .steady ∧ locked.indicator = .slow ∧ opened.indicator = .fast ∧ (1 : LockerNo) ≠ 0 := by decide
theorem witness_LatchLaw : sound.LatchLaw := fun n =>
  ⟨by revert n; decide, by revert n; decide, by revert n; decide, by revert n; decide, by revert n; decide,
    by revert n; decide⟩
theorem witness_ClaimLaw : sound.ClaimLaw := ⟨by decide, by decide⟩
theorem witness_ChainLaw : sound.ChainLaw := ⟨by decide, by decide, by decide, by decide, by decide⟩
theorem witness_OutcomeLaw : sound.OutcomeLaw := ⟨by decide, by decide, by decide⟩
theorem witness_HeatLaw : sound.HeatLaw := by unfold State.HeatLaw; decide
theorem witness_PlanLaw : sound.PlanLaw := ⟨by decide, by decide, by decide, by decide, by decide⟩
theorem witness_PeerLaw : sound.PeerLaw := ⟨by decide, by decide⟩
theorem witness_CountLaw : sound.CountLaw := ⟨by decide, by decide, by decide, by decide⟩
theorem witness_ThrottleLaw : sound.ThrottleLaw := ⟨by decide, by decide, by decide⟩
theorem witness_BusLaw : sound.BusLaw :=
  ⟨by decide, by decide, by decide, by decide, by decide, by decide, by decide, by decide, by decide, by decide, by decide,
    by decide, by decide, by decide, by decide⟩
theorem witness_ShedLaw : sound.ShedLaw := ⟨by decide, by decide⟩
theorem witness_CauseLaw : sound.CauseLaw := fun n =>
  ⟨by revert n; decide, by revert n; decide, by revert n; decide⟩
/-- The bus law holds in the middle of an own attempt too, and the shed law while the release hold runs. -/
theorem witness_BusLaw_attempt : (driving 8).BusLaw :=
  ⟨by decide, by decide, by decide, by decide, by decide, by decide, by decide, by decide, by decide, by decide, by decide,
    by decide, by decide, by decide, by decide⟩
theorem witness_ShedLaw_releasing :
    ({ bank with fsc := { bank.fsc with shed := .releasing, releaseHold := some 0 } } : State).ShedLaw :=
  ⟨by decide, by decide⟩

/-- No two lockers of `sound` hold one ref, and none of their refs is in OCL. -/
theorem sound_refs : (∀ n m, (sound.locker n).orderRef.isSome = true →
      (sound.locker n).orderRef = (sound.locker m).orderRef → n = m)
    ∧ (∀ n, ((sound.locker n).orderRef.map sound.inOcl).getD false = false)
    ∧ (∀ n m, (sound.locker n).pickupCode.isSome = true →
      (sound.locker n).pickupCode = (sound.locker m).pickupCode → n = m) := by decide +kernel

theorem witness_BookingLaw : sound.BookingLaw where
  together := by decide
  held := by decide
  empty := by decide
  pending := by decide
  queued := by decide
  single := by decide
  record := by decide
  lockerRef n m r h1 h2 := sound_refs.1 n m (by rw [h1]; rfl) (h1.trans h2.symm)
  listRef := by decide
  bothRef n r h := by simpa [h] using sound_refs.2.1 n
  lockerCode n m c h1 h2 := sound_refs.2.2 n m (by rw [h1]; rfl) (h1.trans h2.symm)

end Sys2Proof.Tests
end

/-! PROOFS. PST: the ends of the segments, the active segment, and the values that a profile answers (chapter 2). -/

namespace Sys2Proof.Machine

/-! ### The ends of the segments (R36) -/

/-- R36: the table has no duration of 0 s. -/
theorem segmentSeconds_pos (g : Segment) : 0 < segmentSeconds g := by
  have positive : ∀ t : Fin 16, 0 < durations.getD t.val 0 := by decide
  exact positive g.timeCode

theorem segments_toList_eq_map (p : Profile) :
    p.segments.toList = (List.finRange 12).map fun k => p.segments[k] :=
  List.ext_getElem (by simp only [Vector.length_toList, List.length_map, List.length_finRange]) fun i _ _ => by
    simp only [Vector.getElem_toList, List.getElem_map, List.getElem_finRange, Fin.getElem_fin, Fin.val_cast]

theorem endOf_eq_sum_take (p : Profile) (j : Nat) :
    endOf p j = (((List.finRange 12).take j).map fun k => segmentSeconds p.segments[k]).sum := by
  rw [endOf, segments_toList_eq_map, ← List.map_take, List.map_map]
  rfl

theorem endOf_succ (p : Profile) (k : Fin 12) :
    endOf p (k.val + 1) = endOf p k.val + segmentSeconds p.segments[k] := by
  have next : (List.finRange 12)[k.val]? = some k := by
    simp only [List.getElem?_eq_getElem, List.length_finRange, k.isLt, List.getElem_finRange, Fin.cast_mk, Fin.eta]
  simp only [endOf_eq_sum_take, List.take_add_one, next, Option.toList_some, List.map_append, List.map_cons,
    List.map_nil, List.sum_append, List.sum_singleton]

theorem endOf_lt_endOf_succ (p : Profile) (k : Fin 12) : endOf p k.val < endOf p (k.val + 1) := by
  have := segmentSeconds_pos p.segments[k]
  have := endOf_succ p k
  omega

/-- R36: E_1 < E_2 < … < E_12. -/
theorem endOf_lt_endOf (p : Profile) {j k : Nat} (lt : j < k) (le : k ≤ 12) : endOf p j < endOf p k := by
  induction k with
  | zero => exact absurd lt (Nat.not_lt_zero j)
  | succ k ih =>
    have rise : endOf p k < endOf p (k + 1) := endOf_lt_endOf_succ p ⟨k, le⟩
    rcases Nat.lt_succ_iff_lt_or_eq.mp lt with before | rfl
    · exact Nat.lt_trans (ih before (Nat.le_of_succ_le le)) rise
    · exact rise

theorem endOf_le_endOf (p : Profile) {j k : Nat} (le : j ≤ k) (bound : k ≤ 12) : endOf p j ≤ endOf p k := by
  rcases Nat.lt_or_eq_of_le le with lt | rfl
  · exact Nat.le_of_lt (endOf_lt_endOf p lt bound)
  · exact Nat.le_refl _

/-! ### The active segment (R43) -/

/-- The search finds a segment that is unfinished after finished ones. -/
theorem activeSegment_eq_of_first {p : Profile} {e : Nat} {k : Fin 12} (unfinished : e < endOf p (k.val + 1))
    (finished : ∀ j : Fin 12, j < k → endOf p (j.val + 1) ≤ e) : activeSegment p e = k := by
  have found : (List.finRange 12).find? (fun k => decide (e < endOf p (k.val + 1))) = some k := by
    refine List.find?_eq_some_iff_getElem.mpr ⟨decide_eq_true unfinished, k.val,
      by simp only [List.length_finRange, k.isLt], by simp only [List.getElem_finRange, Fin.cast_mk, Fin.eta],
      fun j lt => ?_⟩
    simp only [List.getElem_finRange, Bool.not_eq_true', decide_eq_false_iff_not, Nat.not_lt]
    exact finished ⟨j, Nat.lt_trans lt k.isLt⟩ lt
  rw [activeSegment, found, Option.getD_some]

/-- The ends rise, so a segment is the active one once the segment before it is finished. -/
theorem activeSegment_eq_of_between {p : Profile} {e : Nat} {k : Fin 12} (begun : endOf p k.val ≤ e)
    (unfinished : e < endOf p (k.val + 1)) : activeSegment p e = k :=
  activeSegment_eq_of_first unfinished fun _ lt => Nat.le_trans (endOf_le_endOf p lt (Nat.le_of_lt k.isLt)) begun

theorem activeSegment_eq_last {p : Profile} {e : Nat} (done : endOf p 12 ≤ e) : activeSegment p e = 11 := by
  have missed : (List.finRange 12).find? (fun k => decide (e < endOf p (k.val + 1))) = none := by
    refine List.find?_eq_none.mpr fun k _ => ?_
    have finished := Nat.le_trans (endOf_le_endOf p k.isLt (Nat.le_refl 12)) done
    exact fun unfinished => Nat.not_lt_of_le finished (of_decide_eq_true unfinished)
  rw [activeSegment, missed, Option.getD_none]

theorem activeSegment_zero (p : Profile) : activeSegment p 0 = 0 :=
  activeSegment_eq_of_between (k := 0) (Nat.le_refl _) (endOf_lt_endOf_succ p 0)

/-- R43: a segment becomes active at the hold elapsed equal to the previous segment's end. -/
theorem activeSegment_endOf (p : Profile) (k : Fin 11) : activeSegment p (endOf p (k.val + 1)) = k.succ :=
  activeSegment_eq_of_between (Nat.le_refl _) (endOf_lt_endOf_succ p k.succ)

/-! ### Setpoints (R39) -/

/-- R39: the sum of level and offset, held within 80..204. -/
theorem setpointOf_eq_clamp (p : Profile) (k : Fin 12) :
    (setpointOf p k : Int) =
      let sum : Int := 80 + 4 * p.segments[k].levelCode.val + offsetOf p
      if sum < 80 then 80 else if 204 < sum then 204 else sum := by
  dsimp only [setpointOf, levelOf]
  split
  · omega
  · split <;> omega

/-! ### Margins (R42) -/

theorem margins_of_bandCode {p : Profile} {b : Fin 4} (band : p.bandCode = b) :
    lowerMargin p = [2, 4, 6, 8].getD b.val 0 ∧ upperMargin p = [0, 1, 2, 2].getD b.val 0 := by
  subst band
  exact ⟨rfl, rfl⟩

/-! ### The obligation -/

/-- Settles O8: the segment ends rise, so the search for the active segment stops at the first unfinished one. -/
theorem activeSegmentIsFirstUnfinished : Obligations.ActiveSegmentIsFirstUnfinished := by
  unfold Obligations.ActiveSegmentIsFirstUnfinished
  intro p e
  exact ⟨fun _ => activeSegment_eq_of_first, activeSegment_eq_last, activeSegment_zero p,
    fun j _ => endOf_eq_sum_take p j, setpointOf_eq_clamp p, fun _ => rfl, rfl, rfl, rfl, Nat.mul_comm _ _,
    margins_of_bandCode, margins_of_bandCode, margins_of_bandCode, margins_of_bandCode, activeSegment_endOf p⟩

end Sys2Proof.Machine

/-! PROOFS. HDF: the fill and the pack (R77, R78). -/

namespace Sys2Proof.Machine

/-! ### The fill order (R77) -/

/-- R77: class first, then the greater deficit, then the lower number. -/
theorem FillItem.before_iff (a b : FillItem) :
    a.before b = true ↔ a.cls < b.cls
      ∨ a.cls = b.cls ∧ (b.deficit < a.deficit ∨ a.deficit = b.deficit ∧ a.locker ≤ b.locker) := by
  unfold FillItem.before
  split
  · simp only [decide_eq_true_eq]
    omega
  · split
    · simp only [decide_eq_true_eq]
      omega
    · simp only [decide_eq_true_eq, Fin.le_def]
      omega

theorem FillItem.before_total (a b : FillItem) : a.before b = true ∨ b.before a = true := by
  simp only [FillItem.before_iff, Fin.le_def]
  omega

theorem FillItem.before_trans {a b c : FillItem} (ab : a.before b = true) (bc : b.before c = true) :
    a.before c = true := by
  simp only [FillItem.before_iff, Fin.le_def] at *
  omega

theorem insertItem_perm (a : FillItem) (items : List FillItem) : (insertItem a items).Perm (a :: items) := by
  induction items with
  | nil => exact List.Perm.refl _
  | cons b rest ih =>
    unfold insertItem
    split
    · exact List.Perm.refl _
    · exact (ih.cons b).trans (List.Perm.swap a b rest)

/-- An item put at its place leaves a sorted list sorted. -/
theorem insertItem_pairwise (a : FillItem) {items : List FillItem}
    (sorted : items.Pairwise fun a b => a.before b = true) :
    (insertItem a items).Pairwise fun a b => a.before b = true := by
  induction items with
  | nil => exact List.pairwise_singleton _ a
  | cons b rest ih =>
    obtain ⟨below, sortedRest⟩ := List.pairwise_cons.mp sorted
    unfold insertItem
    split
    next first =>
      refine List.pairwise_cons.mpr ⟨fun c member => ?_, sorted⟩
      rcases List.mem_cons.mp member with rfl | inRest
      · exact first
      · exact FillItem.before_trans first (below c inRest)
    next later =>
      have first : b.before a = true := (FillItem.before_total a b).resolve_left later
      refine List.pairwise_cons.mpr ⟨fun c member => ?_, ih sortedRest⟩
      rcases List.mem_cons.mp ((insertItem_perm a rest).mem_iff.mp member) with rfl | inRest
      · exact first
      · exact below c inRest

theorem fillOrder_perm (items : List FillItem) : (fillOrder items).Perm items := by
  induction items with
  | nil => exact List.Perm.refl _
  | cons a rest ih => exact (insertItem_perm a _).trans (ih.cons a)

theorem fillOrder_pairwise (items : List FillItem) : (fillOrder items).Pairwise fun a b => a.before b = true := by
  induction items with
  | nil => exact List.Pairwise.nil
  | cons a rest ih => exact insertItem_pairwise a ih

/-! ### The fill (R77) -/

theorem fill_lockers (budget : Nat) (items : List FillItem) :
    (fill budget items).map Grant.locker = items.map FillItem.locker := by
  induction items generalizing budget with
  | nil => rfl
  | cons i rest ih => simp [fill, ih]

/-- No item goes short while budget is left. -/
theorem dutySum_fill (budget : Nat) (items : List FillItem) :
    dutySum (fill budget items) = min budget (items.map FillItem.request).sum := by
  induction items generalizing budget with
  | nil => simp [fill, dutySum]
  | cons i rest ih =>
    have tail := ih (budget - min i.request budget)
    simp only [dutySum] at tail
    simp only [fill, dutySum, List.map_cons, List.sum_cons, tail]
    omega

/-- An item is served after all that stand before it. -/
theorem fill_getElem?_append (budget : Nat) (pre : List FillItem) (i : FillItem) (post : List FillItem) :
    (fill budget (pre ++ i :: post))[pre.length]?
      = some ⟨i.locker, min i.request (budget - (pre.map FillItem.request).sum)⟩ := by
  induction pre generalizing budget with
  | nil => simp [fill]
  | cons p pre ih =>
    have left : budget - min p.request budget - (pre.map FillItem.request).sum
        = budget - (p.request + (pre.map FillItem.request).sum) := by omega
    simp only [List.cons_append, fill, List.length_cons, List.getElem?_cons_succ, ih, left, List.map_cons,
      List.sum_cons]

theorem dutyIn_cons (g : Grant) (gs : List Grant) (n : LockerNo) :
    dutyIn (g :: gs) n = if g.locker = n then g.duty else dutyIn gs n := by
  by_cases same : g.locker = n
  · simp [dutyIn, same]
  · simp [dutyIn, same]

theorem dutyIn_of_mem {gs : List Grant} (distinct : (gs.map Grant.locker).Nodup) {g : Grant} (member : g ∈ gs) :
    dutyIn gs g.locker = g.duty := by
  induction gs with
  | nil => exact absurd member List.not_mem_nil
  | cons first rest ih =>
    obtain ⟨apart, distinctRest⟩ := List.nodup_cons.mp distinct
    rw [dutyIn_cons]
    rcases List.mem_cons.mp member with rfl | inRest
    · rw [if_pos rfl]
    · have other : first.locker ≠ g.locker := fun same => apart (same ▸ List.mem_map_of_mem inRest)
      rw [if_neg other, ih distinctRest inRest]

theorem dutyIn_of_notMem {gs : List Grant} {n : LockerNo} (absent : n ∉ gs.map Grant.locker) : dutyIn gs n = 0 := by
  induction gs with
  | nil => rfl
  | cons first rest ih =>
    rw [List.map_cons, List.mem_cons, not_or] at absent
    rw [dutyIn_cons, if_neg (Ne.symm absent.1), ih absent.2]

/-! ### The items (R71, R77) -/

theorem State.heatSetpoint_of_booked (s : State) {l : Locker} (booked : l.state = .booked) :
    s.heatSetpoint l = setpointOf (s.profileOf l) 0 := by
  simp [State.heatSetpoint, State.setpointFor, booked, preheatSetpoint]

theorem State.heatSetpoint_of_holding (s : State) {l : Locker} (holding : l.state = .holding) :
    s.heatSetpoint l = setpointOf (s.profileOf l) (activeSegment (s.profileOf l) l.holdElapsed) := by
  simp [State.heatSetpoint, State.setpointFor, holding, activeSetpoint]

theorem State.deficitOf_of_valid (s : State) {l : Locker} {v : Fin 255} (valid : l.reading = .valid v) :
    s.deficitOf l = (s.heatSetpoint l : Int) - v.val := by
  simp [State.deficitOf, valid]

theorem State.fillItems_lockers (s : State) :
    s.fillItems.map FillItem.locker = allLockers.filter fun n => decide (0 < (s.locker n).request) := by
  simp [State.fillItems, Function.comp_def]

/-- An item carries what stands in the record of its locker. -/
theorem State.eq_of_mem_fillItems {s : State} {i : FillItem} (member : i ∈ s.fillItems) :
    i = ⟨i.locker, (s.locker i.locker).cls.number, s.deficitOf (s.locker i.locker), (s.locker i.locker).request⟩ := by
  obtain ⟨n, -, rfl⟩ := List.mem_map.mp member
  rfl

/-- Settles O15: the fill order is an insertion sort, and the fill is followed along its list. -/
theorem fillServesInOrder : Obligations.FillServesInOrder := by
  unfold Obligations.FillServesInOrder
  intro items budget
  refine ⟨fillOrder_perm items, ?_, fill_lockers budget items, dutySum_fill budget items, ?_, fun s => ⟨?_, ?_⟩,
    fun gs => ⟨fun distinct g => dutyIn_of_mem distinct, fun n => dutyIn_of_notMem⟩⟩
  · exact (fillOrder_pairwise items).imp (FillItem.before_iff _ _).mp
  · rintro pre i post rfl
    exact fill_getElem?_append budget pre i post
  · exact s.fillItems_lockers
  · intro i member
    have item := State.eq_of_mem_fillItems member
    refine ⟨congrArg FillItem.request item, (congrArg FillItem.cls item).trans ?_, fun v valid => ?_⟩
    · cases (s.locker i.locker).cls <;> rfl
    · have deficit := (congrArg FillItem.deficit item).trans (s.deficitOf_of_valid valid)
      exact ⟨fun booked => by rw [deficit, s.heatSetpoint_of_booked booked],
        fun holding => by rw [deficit, s.heatSetpoint_of_holding holding]⟩

/-! ### The run (R78) -/

theorem packRun_length (gs : List Grant) : (packRun gs).length = dutySum gs := by
  simp [packRun, dutySum, List.length_flatMap]

theorem mem_lockers_of_mem_packRun {gs : List Grant} {n : LockerNo} (member : n ∈ packRun gs) :
    n ∈ gs.map Grant.locker := by
  obtain ⟨g, inList, copies⟩ := List.mem_flatMap.mp member
  exact List.mem_map.mpr ⟨g, inList, (List.eq_of_mem_replicate copies).symm⟩

/-- A granted locker stands in the run from where the grants before it end, for as many places as its duty. -/
theorem packRun_getElem?_eq_some_iff {pre post : List Grant} {g : Grant}
    (distinct : ((pre ++ g :: post).map Grant.locker).Nodup) (p : Nat) :
    (packRun (pre ++ g :: post))[p]? = some g.locker ↔ dutySum pre ≤ p ∧ p < dutySum pre + g.duty := by
  rw [List.map_append, List.map_cons, List.perm_middle.nodup_iff, List.nodup_cons, List.mem_append, not_or] at distinct
  have notPre : g.locker ∉ packRun pre := mt mem_lockers_of_mem_packRun distinct.1.1
  have notPost : g.locker ∉ packRun post := mt mem_lockers_of_mem_packRun distinct.1.2
  have run : packRun (pre ++ g :: post) = packRun pre ++ (List.replicate g.duty g.locker ++ packRun post) := by
    simp [packRun]
  rw [run]
  rcases Nat.lt_or_ge p (dutySum pre) with before | after
  · rw [List.getElem?_append_left (by rwa [packRun_length])]
    exact ⟨fun at_ => absurd (List.mem_of_getElem? at_) notPre, fun within => absurd within.1 (by omega)⟩
  rw [List.getElem?_append_right (by rwa [packRun_length]), packRun_length]
  rcases Nat.lt_or_ge p (dutySum pre + g.duty) with within | beyond
  · rw [List.getElem?_append_left (by rw [List.length_replicate]; omega)]
    exact ⟨fun _ => ⟨after, within⟩, fun _ => List.getElem?_replicate_of_lt (by omega)⟩
  · rw [List.getElem?_append_right (by rw [List.length_replicate]; omega)]
    exact ⟨fun at_ => absurd (List.mem_of_getElem? at_) notPost, fun within => absurd within.2 (by omega)⟩

/-! ### The plan (R78) -/

theorem packLayer_length (run : List LockerNo) : (packLayer run).length = 16 := by
  have filled : min 16 run.length + (16 - run.length) = 16 := by omega
  simpa [packLayer] using filled

theorem packLayer_getD (run : List LockerNo) {j : Nat} (place : j < 16) : (packLayer run).getD j none = run[j]? := by
  have filled : ((run.take 16).map some).length = min 16 run.length := by rw [List.length_map, List.length_take]
  rw [List.getD_eq_getElem?_getD, packLayer]
  rcases Nat.lt_or_ge j run.length with within | beyond
  · rw [List.getElem?_append_left (by omega), List.getElem?_map, List.getElem?_take_of_lt place,
      List.getElem?_eq_getElem within]
    rfl
  · rw [List.getElem?_append_right (by omega), List.getElem?_replicate, List.getElem?_eq_none beyond]
    split <;> rfl

theorem length_of_mem_packLayers {n : Nat} {run : List LockerNo} {layer : List (Option LockerNo)}
    (member : layer ∈ packLayers n run) : layer.length = 16 := by
  induction n generalizing run with
  | zero => simp [packLayers] at member
  | succ n ih =>
    rcases List.mem_cons.mp member with rfl | below
    · exact packLayer_length run
    · exact ih below

/-- Layer `k` slot `j` holds what stands at place 16 k + j of the run. -/
theorem packLayers_getD (n : Nat) (run : List LockerNo) {k j : Nat} (layer : k < n) (place : j < 16) :
    ((packLayers n run).getD k []).getD j none = run[16 * k + j]? := by
  induction n generalizing run k with
  | zero => exact absurd layer (Nat.not_lt_zero k)
  | succ n ih =>
    cases k with
    | zero => simpa [packLayers] using packLayer_getD run place
    | succ k =>
      have shifted : 16 + (16 * k + j) = 16 * (k + 1) + j := by omega
      simpa [packLayers, shifted] using ih (run.drop 16) (Nat.lt_of_succ_lt_succ layer)

theorem placedIn_iff (plan : List (List (Option LockerNo))) (j : Fin 16) (n : LockerNo) :
    placedIn plan j n = true ↔ ∃ layer ∈ plan, layer.getD j.val none = some n := by
  simp [placedIn]

/-- A locker is placed in the slots that its places in the run are taken to, round by round. -/
theorem placedIn_packLayers_iff (n : Nat) (run : List LockerNo) (j : Fin 16) (m : LockerNo) :
    placedIn (packLayers n run) j m = true ↔ ∃ k < n, run[16 * k + j.val]? = some m := by
  rw [placedIn_iff]
  constructor
  · rintro ⟨layer, member, placed⟩
    obtain ⟨k, bound, rfl⟩ := List.mem_iff_getElem.mp member
    have inPlan : k < n := by simpa using bound
    refine ⟨k, inPlan, ?_⟩
    rw [← packLayers_getD n run inPlan j.isLt, List.getD_eq_getElem?_getD (l := packLayers n run),
      List.getElem?_eq_getElem bound, Option.getD_some, placed]
  · rintro ⟨k, inPlan, placed⟩
    have bound : k < (packLayers n run).length := by simpa using inPlan
    refine ⟨_, List.getElem_mem bound, ?_⟩
    rw [← placed, ← packLayers_getD n run inPlan j.isLt, List.getD_eq_getElem?_getD (l := packLayers n run),
      List.getElem?_eq_getElem bound, Option.getD_some]

theorem mem_slotsOf {plan : List (List (Option LockerNo))} {j : Fin 16} {n : LockerNo} :
    j ∈ slotsOf plan n ↔ placedIn plan j n = true := by
  simp [slotsOf]

theorem slotsOf_nodup (plan : List (List (Option LockerNo))) (n : LockerNo) : (slotsOf plan n).Nodup :=
  (List.nodup_finRange 16).filter _

/-- The `d` slots that `d` successive places of the run are taken to, from place `a` on. -/
def slotsFrom (a d : Nat) : List (Fin 16) := (List.range d).map fun i => Fin.ofNat 16 (a + i)

theorem mem_slotsFrom {a d : Nat} {j : Fin 16} : j ∈ slotsFrom a d ↔ ∃ i < d, (a + i) % 16 = j.val := by
  simp [slotsFrom, Fin.ext_iff]

/-- Sixteen successive places at most are taken to different slots. -/
theorem slotsFrom_nodup (a : Nat) {d : Nat} (short : d ≤ 16) : (slotsFrom a d).Nodup := by
  refine List.pairwise_map.mpr (List.pairwise_lt_range.imp_of_mem fun {i k} _ inRange less same => ?_)
  have remainders : (a + i) % 16 = (a + k) % 16 := congrArg Fin.val same
  have bound : k < d := List.mem_range.mp inRange
  omega

/-- R78: a granted locker stands in the slots of its own stretch of the run. -/
theorem slotsOf_perm_slotsFrom {pre post : List Grant} {g : Grant} {n : Nat}
    (distinct : ((pre ++ g :: post).map Grant.locker).Nodup) (short : g.duty ≤ 16)
    (room : dutySum (pre ++ g :: post) ≤ 16 * n) :
    (slotsOf (packLayers n (packRun (pre ++ g :: post))) g.locker).Perm (slotsFrom (dutySum pre) g.duty) := by
  have ends : dutySum pre + g.duty ≤ 16 * n := by
    simp only [dutySum, List.map_append, List.map_cons, List.sum_append, List.sum_cons] at room ⊢
    omega
  refine (List.perm_ext_iff_of_nodup (slotsOf_nodup _ _) (slotsFrom_nodup _ short)).mpr fun j => ?_
  rw [mem_slotsOf, placedIn_packLayers_iff, mem_slotsFrom]
  simp only [packRun_getElem?_eq_some_iff distinct]
  constructor
  · rintro ⟨k, -, start, stop⟩
    exact ⟨16 * k + j.val - dutySum pre, by omega, by omega⟩
  · rintro ⟨i, within, slot⟩
    exact ⟨(dutySum pre + i) / 16, by omega, by omega, by omega⟩

theorem slotsOf_eq_nil {gs : List Grant} {m : LockerNo} (n : Nat) (absent : m ∉ gs.map Grant.locker) :
    slotsOf (packLayers n (packRun gs)) m = [] := by
  refine List.filter_eq_nil_iff.mpr fun j _ placed => ?_
  obtain ⟨k, -, at_⟩ := (placedIn_packLayers_iff n _ j m).mp placed
  exact absent (mem_lockers_of_mem_packRun (List.mem_of_getElem? at_))

/-- A layer holds one locker in a slot at most, so a plan of N layers holds at most N there. -/
theorem lockersIn_length_le (plan : List (List (Option LockerNo))) (j : Fin 16) :
    (lockersIn plan j).length ≤ plan.length := by
  have inLayers : lockersIn plan j ⊆ plan.filterMap fun layer => layer.getD j.val none := by
    intro n member
    simpa [placedIn_iff] using (List.mem_filter.mp member).2
  have distinct : (lockersIn plan j).Nodup := allLockers_nodup.filter _
  calc (lockersIn plan j).length
    _ ≤ (plan.filterMap fun layer => layer.getD j.val none).length := distinct.length_le_of_subset inLayers
    _ ≤ plan.length := List.length_filterMap_le _ plan

/-- Settles O16: the places of the plan are those of the run, and a duty of at most 16 successive places meets no slot
twice. -/
theorem packPlacesEveryDuty : Obligations.PackPlacesEveryDuty := by
  unfold Obligations.PackPlacesEveryDuty
  intro gs n distinct short room
  refine ⟨packLayers_length n _, fun _ => length_of_mem_packLayers, fun g member => ?_, fun _ => slotsOf_eq_nil n,
    fun j => ?_, fun _ _ => packLayers_getD n _⟩
  · obtain ⟨pre, post, rfl⟩ := List.append_of_mem member
    simpa [slotsFrom] using (slotsOf_perm_slotsFrom distinct (short g member) room).length_eq
  · simpa using lockersIn_length_le (packLayers n (packRun gs)) j

end Sys2Proof.Machine

/-! PROOFS. HDF: the plan law, which every step keeps, and the count of heaters that follows from it (R68,
R76, R78, R79). -/

namespace Sys2Proof.Machine

/-! ### What a record's update does to its heater -/

@[simp] theorem Locker.switchOff_heaterOn (l : Locker) : l.switchOff.heaterOn = false := rfl

@[simp] theorem Locker.lockOut_heaterOn (l : Locker) (c : Cause) : (l.lockOut c).heaterOn = false := rfl

@[simp] theorem Locker.supervise_heaterOn (l : Locker) (floor overtemp : Nat) :
    (l.supervise floor overtemp).heaterOn = l.heaterOn := by
  unfold Locker.supervise
  split <;> rfl

@[simp] theorem Locker.setUp_heaterOn (l : Locker) (hidden : Bool) : (l.setUp hidden).heaterOn = l.heaterOn := by
  unfold Locker.setUp
  split
  · rfl
  · split <;> rfl

theorem State.advance_heaterOn (s : State) (d : Nat) (n : LockerNo) :
    ((s.advance d).locker n).heaterOn = (s.locker n).heaterOn := by
  obtain ⟨_, _, _, kept⟩ := s.advance_locker_keeps d n
  rw [kept]

/-! ### What the plan law rests on -/

/-- R107: a frame changes the table and the counts of PVT at most. -/
theorem Pvt.takeFrame_station (p : Pvt) (c : Config) (f : DemandFrame) : (p.takeFrame c f).station = p.station := by
  unfold Pvt.takeFrame
  split
  · rfl
  · split <;> rfl

/-- Only a change of the plan, of the slot or of the station state, or a heater that comes on, can break the law. -/
theorem State.PlanLaw.frame {s t : State} (h : s.PlanLaw)
    (hdf : t.hdf = { s.hdf with windowTimer := t.hdf.windowTimer })
    (station : t.pvt.station = s.pvt.station)
    (lit : ∀ n, (t.locker n).heaterOn = true → (s.locker n).heaterOn = true) : t.PlanLaw where
  elements := by rw [hdf]; exact h.elements
  layers := by rw [hdf]; exact h.layers
  budget := by rw [hdf]; exact h.budget
  placed n on := by rw [hdf]; exact h.placed n (lit n on)
  dark := by rw [hdf, station]; exact h.dark

/-- The plan law knows nothing of the other blocks. -/
theorem State.PlanLaw.same {s t : State} (h : s.PlanLaw) (lockers : t.lockers = s.lockers) (hdf : t.hdf = s.hdf)
    (pvt : t.pvt = s.pvt) : t.PlanLaw :=
  h.frame (by rw [hdf]) (by rw [pvt]) fun n on => by rwa [State.locker, lockers] at on

/-- The plan law at a window start and at a slot boundary: the outputs are set for a slot of the plan (R79). -/
theorem State.PlanLaw.ofEnterSlot {s : State} (j : Fin 16) (elements : s.hdf.elements ≤ 16)
    (layers : s.hdf.plan.length = s.hdf.elements) (budget : s.hdf.slotBudget = 16 * s.hdf.elements)
    (dark : s.pvt.station ≠ .joined → s.pvt.station ≠ .isolated → s.hdf.elements = 0) :
    (s.enterSlot j).PlanLaw where
  elements := by simpa using elements
  layers := by simpa using layers
  budget := by simpa using budget
  placed n on := by
    simp only [State.enterSlot_locker, Bool.and_eq_true] at on
    exact ⟨j, by simp, by simpa using on.1⟩
  dark := by simpa using dark

/-- R76, R126: the station states without an allowance are those without an element. -/
theorem elementsOf_allowanceOf_eq_zero (c : Config) (view : Pvt) (own : Demand) (feeder heaterCode : Nat)
    (branch : Option Nat) (notJoined : view.station ≠ .joined) (notIsolated : view.station ≠ .isolated) :
    elementsOf (allowanceOf c view own feeder branch) heaterCode = 0 := by
  have none : allowanceOf c view own feeder branch = 0 := by
    unfold allowanceOf
    cases station : view.station with
    | joined => exact absurd station notJoined
    | isolated => exact absurd station notIsolated
    | starting | listening | halted => rfl
  simp [elementsOf, none]

/-- Whatever the state before, the plan law holds once a window start has shared, filled and packed (R70). -/
theorem State.PlanLaw.ofFill (s : State) (own : Demand) : ((s.share own).fillAndPack).PlanLaw := by
  unfold State.fillAndPack
  refine State.PlanLaw.ofEnterSlot 0 ?_ ?_ rfl ?_
  · exact Nat.min_le_left 16 _
  · simp
  · intro notJoined notIsolated
    simp only [State.withHdf_pvt, State.eachLocker_pvt, State.share_pvt] at notJoined notIsolated
    exact elementsOf_allowanceOf_eq_zero _ _ _ _ _ _ notJoined notIsolated

/-! ### The plan law under the shared operations -/

section shared
variable {s : State} (h : s.PlanLaw)
include h

theorem State.PlanLaw.setLocker {n : LockerNo} {l : Locker}
    (lit : l.heaterOn = true → (s.locker n).heaterOn = true) : (s.setLocker n l).PlanLaw := by
  refine h.frame rfl rfl fun m on => ?_
  rw [State.setLocker_locker] at on
  split at on
  next same => exact same ▸ lit on
  next => exact on

theorem State.PlanLaw.putLocker {n : LockerNo} {l : Locker}
    (lit : l.heaterOn = true → (s.locker n).heaterOn = true) : (s.putLocker n l).PlanLaw :=
  h.setLocker lit

theorem State.PlanLaw.eachLocker {f : LockerNo → Locker → Locker}
    (lit : ∀ n, (f n (s.locker n)).heaterOn = true → (s.locker n).heaterOn = true) : (s.eachLocker f).PlanLaw :=
  h.frame rfl rfl fun n on => lit n (by rwa [State.eachLocker_locker] at on)

theorem State.PlanLaw.sampleTrays (trays : Lines) : (s.sampleTrays trays).PlanLaw :=
  h.eachLocker fun _ on => on

theorem State.PlanLaw.advance (d : Nat) : (s.advance d).PlanLaw := by
  refine h.frame ?_ (by rw [State.advance_pvt]) fun n on => (s.advance_heaterOn d n).symm.trans on
  by_cases zero : d = 0
  · rw [zero, State.advance_zero]
  · rw [(s.advance_blocks zero).1]

theorem State.PlanLaw.withHbp (x : Hbp) : (s.withHbp x).PlanLaw := h.same rfl rfl rfl

theorem State.PlanLaw.withFsc (x : Fsc) : (s.withFsc x).PlanLaw := h.same rfl rfl rfl

theorem State.PlanLaw.withPnl (x : Pnl) : (s.withPnl x).PlanLaw := h.same rfl rfl rfl

theorem State.PlanLaw.withSvl (x : Svl) : (s.withSvl x).PlanLaw := h.same rfl rfl rfl

theorem State.PlanLaw.withOvertaken (x : Overtaken) : (s.withOvertaken x).PlanLaw := h.same rfl rfl rfl

theorem State.PlanLaw.withBkc (x : Bkc) : (s.withBkc x).PlanLaw := h.same rfl rfl rfl

theorem State.PlanLaw.endClaim : s.endClaim.PlanLaw := h.same rfl rfl rfl

theorem State.PlanLaw.leftHolding (n : LockerNo) (was : LockerState) : (s.leftHolding n was).PlanLaw := by
  unfold State.leftHolding
  split
  · exact h.endClaim
  · exact h

theorem State.PlanLaw.fileOrQueue (n : LockerNo) (r : OutcomeRecord) : (s.fileOrQueue n r).PlanLaw := by
  unfold State.fileOrQueue
  split
  · exact (h.putLocker (l := (s.locker n).clearBooking) id).same rfl rfl rfl
  · exact (h.putLocker (l := { s.locker n with recordPending := true }) id).same rfl rfl rfl

theorem State.PlanLaw.endInLockout (n : LockerNo) (c : Cause) (e : BookingEnd) : (s.endInLockout n c e).PlanLaw :=
  ((h.putLocker (by simp)).leftHolding n _).fileOrQueue n _

theorem State.PlanLaw.endCollected (n : LockerNo) : (s.endCollected n).PlanLaw := by
  refine State.PlanLaw.fileOrQueue ?_ n _
  exact h.putLocker id

theorem State.PlanLaw.fileFromQueue : s.fileFromQueue.PlanLaw := by
  unfold State.fileFromQueue
  split
  · exact h
  · refine State.PlanLaw.same (h.putLocker fun on => ?_) rfl rfl rfl
    split at on <;> exact on

theorem State.PlanLaw.enterLoading (n : LockerNo) : (s.enterLoading n).PlanLaw := h.putLocker (by simp)

theorem State.PlanLaw.giveTurn (es : List ChainEntry) : (s.giveTurn es).PlanLaw := by
  induction es generalizing s with
  | nil => exact h.withBkc _
  | cons e rest ih =>
    unfold State.giveTurn
    split
    · exact (h.enterLoading e.locker).withBkc _
    · exact ih (h.withBkc _)

theorem State.PlanLaw.loadingExit (x : LoadingExit) : (s.loadingExit x).PlanLaw :=
  (h.withBkc _).giveTurn _

theorem State.PlanLaw.backToBooked (n : LockerNo) : (s.backToBooked n).PlanLaw := h.putLocker id

theorem State.PlanLaw.toClearing (n : LockerNo) : (s.toClearing n).PlanLaw := h.putLocker id

theorem State.PlanLaw.respond (command : Byte) (a : Answer) : (s.respond command a).PlanLaw := h.same rfl rfl rfl

theorem State.PlanLaw.panelRespond (type : Byte) (a : PanelAnswer) : (s.panelRespond type a).PlanLaw :=
  h.same rfl rfl rfl

theorem State.PlanLaw.serviceArrival {judge : State → State} (judged : ∀ s, s.PlanLaw → (judge s).PlanLaw) :
    (s.serviceArrival judge).PlanLaw := by
  cases busy : s.svl.inProgress with
  | none => exact s.serviceArrival_idle judge busy ▸ judged _ (h.same rfl rfl rfl)
  | some _ => exact s.serviceArrival_busy judge busy ▸ h.same rfl rfl rfl

theorem State.PlanLaw.panelArrival {take : State → State} (taken : ∀ s, s.PlanLaw → (take s).PlanLaw) :
    (s.panelArrival take).PlanLaw := by
  cases busy : s.pnl.sending with
  | none => exact s.panelArrival_idle take busy ▸ taken _ (h.same rfl rfl rfl)
  | some _ => exact s.panelArrival_busy take busy ▸ h.same rfl rfl rfl

end shared

/-! ### The plan law under the events of the lockers -/

section lockers
variable {s : State} (h : s.PlanLaw) (n : LockerNo)
include h

theorem State.PlanLaw.closeLoading : (s.closeLoading n).PlanLaw := by
  unfold State.closeLoading
  split
  · refine State.PlanLaw.loadingExit ?_ _
    exact h.putLocker id
  · exact (h.backToBooked n).loadingExit _

theorem State.PlanLaw.reshut : (s.reshut n).PlanLaw := by
  unfold State.reshut
  split
  · exact h.putLocker id
  · exact h.endInLockout n _ _

theorem State.PlanLaw.closeOpened : (s.closeOpened n).PlanLaw := by
  unfold State.closeOpened
  split
  · exact h.reshut n
  · exact h.endCollected n

theorem State.PlanLaw.backToLockout : (s.backToLockout n).PlanLaw := h.putLocker id

theorem State.PlanLaw.closeClearing : (s.closeClearing n).PlanLaw := by
  simp only [State.closeClearing]
  split
  · exact h.backToLockout n
  · split <;> exact h.putLocker id

theorem State.PlanLaw.closeForced : (s.closeForced n).PlanLaw := by
  have asItIs : (s.putLocker n (s.locker n)).PlanLaw := h.putLocker id
  have foreign : (s.putLocker n
      (if (s.locker n).trayPresent then (s.locker n).lockOut .foreign else s.locker n)).PlanLaw := by
    split
    · exact h.putLocker (by simp)
    · exact asItIs
  unfold State.closeForced
  cases state : (s.locker n).state with
  | free | filing => simpa only [state] using foreign
  | booked =>
    simp only [state]
    split
    · exact h.endInLockout n _ _
    · exact asItIs
  | lockout | out | loading | holding | opened | clearing => simpa only [state] using asItIs

/-- R8: the door input leaves the shut position. -/
theorem State.PlanLaw.openDoor : (s.setLocker n { s.locker n with doorShut := false }).PlanLaw := h.setLocker id

/-- R8: the door input shows the door shut again. -/
theorem State.PlanLaw.shutDoor (tray : Bool) : (s.putLocker n ((s.locker n).shutWith tray)).PlanLaw := h.putLocker id

theorem State.PlanLaw.doorOpened : (s.doorOpened n).PlanLaw := by
  simp only [State.doorOpened]
  split
  · exact h
  iterate 3 exact h.putLocker id
  · exact h.putLocker (by simp)
  · refine State.PlanLaw.endInLockout ?_ n _ _
    exact h.putLocker id
  iterate 3 exact h.putLocker id

theorem State.PlanLaw.doorClosed : (s.doorClosed n).PlanLaw := by
  simp only [State.doorClosed]
  split
  · refine State.PlanLaw.closeForced ?_ n
    exact h.setLocker id
  · split
    · exact h.closeLoading n
    · exact h.closeOpened n
    · exact h.closeClearing n
    all_goals exact h

theorem State.PlanLaw.unlatchExpired : (s.unlatchExpired n).PlanLaw := by
  have idle : (s.setLocker n { s.locker n with unlatchTimer := none }).PlanLaw := h.setLocker id
  simp only [State.unlatchExpired]
  split
  · exact (idle.backToBooked n).loadingExit _
  · exact idle.reshut n
  · exact idle.backToLockout n
  all_goals exact idle

theorem State.PlanLaw.ajarExpired : (s.ajarExpired n).PlanLaw := h.putLocker id

/-- R63, R80: a report of the reading can only switch off. -/
theorem State.PlanLaw.reportReading : (s.reportReading n).PlanLaw := by
  unfold State.reportReading
  split
  · exact h
  · exact h.setLocker (by simp)

theorem State.PlanLaw.raise (c : ScanCause) : (s.raise n c).PlanLaw := by
  simp only [State.raise]
  split
  · exact h.endInLockout n _ _
  · split
    · exact h.setLocker id
    · exact h
  all_goals exact h

theorem State.PlanLaw.superviseScan : (s.superviseScan n).PlanLaw := by
  have supervised : (s.setLocker n
      ((s.locker n).supervise (floorOf (s.profileOf (s.locker n))) s.cfg.overtemp)).PlanLaw :=
    h.setLocker (by simp)
  simp only [State.superviseScan]
  split
  · exact supervised.raise n _
  · exact supervised

theorem State.PlanLaw.scan (x : Reading) : (s.scan n x).PlanLaw := by
  have sampled : (s.setLocker n ((s.locker n).takeSample x)).PlanLaw := h.setLocker id
  simp only [State.scan]
  split
  · exact (sampled.reportReading n).superviseScan n
  · exact sampled.superviseScan n
  · exact sampled.reportReading n
  all_goals exact sampled

end lockers

/-! ### The plan law under the commands of the service line -/

section service
variable {s : State} (h : s.PlanLaw)
include h

theorem State.PlanLaw.book (ref : OrderRef) (code : Code) (profile : Byte) (preferred : Option Byte) :
    (s.book ref code profile preferred).1.PlanLaw := by
  unfold State.book
  iterate 4
    split
    exact h
  split
  · exact h.putLocker id
  · exact h

theorem State.PlanLaw.load (force : Bool) (refs : List OrderRef) : (s.load force refs).1.PlanLaw := by
  unfold State.load
  iterate 2
    split
    exact h
  split
  · exact h
  · exact (h.withBkc _).giveTurn _

theorem State.PlanLaw.relatch (n : LockerNo) : (s.relatch n).PlanLaw := by
  unfold State.relatch
  split
  · exact (h.backToBooked n).loadingExit _
  · exact h

theorem State.PlanLaw.abortLoad : s.abortLoad.1.PlanLaw := by
  unfold State.abortLoad
  split
  · exact h
  · exact (h.withBkc _).relatch _

theorem State.PlanLaw.freeBooked (n : LockerNo) : (s.freeBooked n).PlanLaw := h.putLocker (by simp)

theorem State.PlanLaw.cancel (ref : OrderRef) : (s.cancel ref).1.PlanLaw := by
  unfold State.cancel
  split
  · exact h
  · split
    · exact (h.freeBooked _).withBkc _
    · exact h.endInLockout _ _ _
    all_goals exact h

theorem State.PlanLaw.release (ref : OrderRef) : (s.release ref).1.PlanLaw := by
  unfold State.release
  split
  · exact State.PlanLaw.fileFromQueue (h.same rfl rfl rfl)
  · exact h

theorem State.PlanLaw.hide (b : Byte) : (s.hide b).1.PlanLaw := by
  unfold State.hide
  split
  · exact h
  · dsimp only
    iterate 4
      split
      exact h
    exact h.putLocker id

theorem State.PlanLaw.showCmd (b : Byte) : (s.showCmd b).1.PlanLaw := by
  unfold State.showCmd
  split
  · exact h
  · dsimp only
    iterate 4
      split
      exact h
    exact h.putLocker id

theorem State.PlanLaw.staffOpen (b : Byte) : (s.staffOpen b).1.PlanLaw := by
  unfold State.staffOpen
  split
  · exact h
  · split
    · exact h.toClearing _
    · exact h

theorem State.PlanLaw.runCommand (c : ServiceCmd) : (s.runCommand c).1.PlanLaw := by
  cases c with
  | book ref code profile preferred => exact h.book ref code profile preferred
  | load force refs => exact h.load force refs
  | abortLoad => exact h.abortLoad
  | cancel ref => exact h.cancel ref
  | queryOrder | queryLocker | queryBank | fetch => exact h
  | release ref => exact h.release ref
  | hideLocker b => exact h.hide b
  | showLocker b => exact h.showCmd b
  | staffOpen b => exact h.staffOpen b

theorem State.PlanLaw.dispatch (c : ServiceCmd) : (s.dispatch c).1.PlanLaw := by
  unfold State.dispatch
  split
  · exact h
  · split <;> exact h
  all_goals exact h.runCommand c

theorem State.PlanLaw.serve (c : ServiceCmd) : (s.serve c).PlanLaw :=
  h.serviceArrival fun _ g => (g.dispatch c).respond _ _

theorem State.PlanLaw.serveFault (f : FrameFault) : (s.serveFault f).PlanLaw :=
  h.serviceArrival fun _ g => g.respond _ _

theorem State.PlanLaw.serveBytes (kept : List Byte) : (s.serveBytes kept).PlanLaw := by
  unfold State.serveBytes
  split
  · exact h.serve _
  · exact h.serveFault _

theorem State.PlanLaw.serviceByte (b : Byte) (framingError : Bool) : (s.serviceByte b framingError).PlanLaw := by
  simp only [State.serviceByte]
  split
  · split
    · exact h.same rfl rfl rfl
    · exact h
  · split
    · exact h.serveFault _
    · exact h.same rfl rfl rfl
  · split
    · exact h.serveFault _
    · split
      · exact h.serveBytes _
      · exact h.same rfl rfl rfl

theorem State.PlanLaw.gapExpired : s.gapExpired.PlanLaw := by
  unfold State.gapExpired
  split
  · exact h.same rfl rfl rfl
  iterate 2 exact h.serveFault _

end service

/-! ### The plan law under the messages of the panel -/

section panel
variable {s : State} (h : s.PlanLaw)
include h

theorem State.PlanLaw.noMatch : s.noMatch.1.PlanLaw := h.same rfl rfl rfl

theorem State.PlanLaw.breakClaim : s.breakClaim.PlanLaw := h.same rfl rfl rfl

theorem State.PlanLaw.lookUp (code : Code) : (s.lookUp code).1.PlanLaw := by
  unfold State.lookUp
  split
  · exact h.noMatch
  · split
    · exact h.same rfl rfl rfl
    iterate 4 exact h
    all_goals exact h.noMatch

theorem State.PlanLaw.present (code : Code) : (s.present code).1.PlanLaw := by
  unfold State.present
  split
  · exact h.breakClaim
  · exact h.breakClaim.lookUp code

theorem State.PlanLaw.openForPickup (n : LockerNo) : (s.openForPickup n).PlanLaw :=
  State.PlanLaw.endClaim (h.putLocker (by simp))

theorem State.PlanLaw.confirm (b : Byte) : (s.confirm b).1.PlanLaw := by
  unfold State.confirm
  split
  · split
    · exact h.openForPickup _
    · exact h
  · exact h

theorem State.PlanLaw.presentStaff (code : Code) (b : Byte) : (s.presentStaff code b).1.PlanLaw := by
  unfold State.presentStaff
  split
  · exact h
  split
  · exact h.noMatch
  split
  · exact h
  split
  · exact h.toClearing _
  · exact h

theorem State.PlanLaw.runMessage (m : PanelMsg) : (s.runMessage m).1.PlanLaw := by
  cases m with
  | present code => exact h.present code
  | confirm b => exact h.confirm b
  | abandon => exact h.endClaim
  | presentStaff code b => exact h.presentStaff code b

theorem State.PlanLaw.answerMessage (m : PanelMsg) : (s.answerMessage m).PlanLaw := by
  unfold State.answerMessage
  split
  · exact (h.runMessage m).panelRespond _ _
  · exact h.panelRespond _ _

theorem State.PlanLaw.takeMessage (m : PanelMsg) : (s.takeMessage m).PlanLaw :=
  h.panelArrival fun _ g => g.answerMessage m

theorem State.PlanLaw.takePanelFault (f : PanelFault) : (s.takePanelFault f).PlanLaw :=
  h.panelArrival fun _ g => g.panelRespond _ _

theorem State.PlanLaw.takePanelBytes (kept : List Byte) : (s.takePanelBytes kept).PlanLaw := by
  unfold State.takePanelBytes
  split
  · exact h.takeMessage _
  · exact h.takePanelFault _

theorem State.PlanLaw.panelByte (b : Byte) (framingError : Bool) : (s.panelByte b framingError).PlanLaw := by
  simp only [State.panelByte]
  split
  · split
    · exact h.same rfl rfl rfl
    · exact h
  · split
    · exact h.takePanelFault _
    · exact h.same rfl rfl rfl
  · split
    · exact h.takePanelFault _
    · split
      · exact h.takePanelBytes _
      · exact h.same rfl rfl rfl

theorem State.PlanLaw.panelGapExpired : s.panelGapExpired.PlanLaw := by
  unfold State.panelGapExpired
  split
  · exact h.same rfl rfl rfl
  iterate 2 exact h.takePanelFault _

end panel

/-! ### The plan law under the heat bus, the start-up and the windows -/

section blocks
variable {s : State} (h : s.PlanLaw)
include h

theorem State.PlanLaw.checkFrame : s.checkFrame.PlanLaw := by
  unfold State.checkFrame
  split
  · exact h.frame rfl (Pvt.takeFrame_station _ _ _) fun _ on => on
  · exact h.same rfl rfl rfl

theorem State.PlanLaw.frameEnd : s.frameEnd.PlanLaw := by
  simp only [State.frameEnd]
  split
  iterate 4 exact h.same rfl rfl rfl
  split
  · split
    · exact h.same rfl rfl rfl
    · exact State.PlanLaw.checkFrame (h.same rfl rfl rfl)
  · exact State.PlanLaw.checkFrame (h.same rfl rfl rfl)

/-- R2, R111, R185: out of STARTING the part comes with the plan that it had, which has no element. -/
theorem State.PlanLaw.readComplete (image : List Byte) (starting : s.pvt.station = .starting) :
    (s.readComplete image).PlanLaw := by
  have none : s.hdf.elements = 0 := h.dark (by simp [starting]) (by simp [starting])
  have moved : ∀ t : State, t.hdf = { s.hdf with windowTimer := t.hdf.windowTimer } →
      (∀ n, (t.locker n).heaterOn = (s.locker n).heaterOn) → t.PlanLaw := by
    intro t hdf lit
    have settled : (t.withPvt { t.pvt with station := s.pvt.station }).PlanLaw :=
      h.frame hdf rfl fun n on => lit n ▸ on
    exact ⟨settled.elements, settled.layers, settled.budget, settled.placed, fun _ _ => by rw [hdf]; exact none⟩
  unfold State.readComplete
  split
  · exact moved _ rfl fun _ => rfl
  · exact moved _ rfl fun n => by simp [State.endStarting]

theorem State.PlanLaw.enterSlot (j : Fin 16) : (s.enterSlot j).PlanLaw :=
  State.PlanLaw.ofEnterSlot j h.elements h.layers h.budget h.dark

theorem State.PlanLaw.warnAsserted : s.warnAsserted.PlanLaw := by
  unfold State.warnAsserted
  split
  · exact State.PlanLaw.ofFill _ _
  iterate 2 exact h.same rfl rfl rfl
  exact h

theorem State.PlanLaw.warnReleased : s.warnReleased.PlanLaw := by
  unfold State.warnReleased
  split
  · exact h.same rfl rfl rfl
  all_goals exact h

end blocks

/-- R183: after a reset no heater is on and there is no plan. -/
theorem State.PlanLaw.ofReset (s : State) : s.resetPart.PlanLaw where
  elements := Nat.zero_le 16
  layers := rfl
  budget := rfl
  placed n on := by
    have off : (s.resetPart.locker n).heaterOn = false := by
      simp [State.resetPart, State.locker, Locker.afterReset, Locker.reset]
    exact absurd on (by simp [off])
  dark _ _ := rfl

/-! ### The plan law under every command -/

/-- What holds of the next state that a meaning answers holds of the state after it. -/
theorem of_next {P : State → Prop} {u t : State} (holds : P u)
    (e : (Host.Outcome.next u : Result) = Host.Outcome.next t) : P t :=
  Host.Outcome.next.inj e ▸ holds

/-- The same of a meaning that answers one of two states. -/
theorem of_ite_next {P : State → Prop} {u v t : State} {c : Prop} [Decidable c] (yes : c → P u) (no : ¬c → P v)
    (e : (if c then Host.Outcome.next u else Host.Outcome.next v : Result) = Host.Outcome.next t) : P t := by
  split at e
  next holds => exact of_next (yes holds) e
  next fails => exact of_next (no fails) e

section commands
variable {s t : State} (h : s.PlanLaw)
include h

theorem State.PlanLaw.onExpiry (timer : Timer) (limit : Nat) {expire : State → State}
    (expired : ∀ s, s.PlanLaw → (expire s).PlanLaw) : (s.onExpiry timer limit expire).PlanLaw :=
  s.onExpiry_keeps timer limit expire h (fun d _ => h.advance d) expired

theorem execSlotBoundary_keepsPlanLaw (e : execSlotBoundary s = .next t) : t.PlanLaw := by
  unfold execSlotBoundary at e
  split at e
  · exact of_next (h.withOvertaken _) e
  · split at e
    · split at e
      · exact of_next ((h.advance _).enterSlot _) e
      · exact of_next h e
    · exact of_next h e

theorem execErroredAttempt_keepsPlanLaw (cause : AttemptError) (e : execErroredAttempt cause s = .next t) :
    t.PlanLaw := by
  unfold execErroredAttempt at e
  split at e
  · cases cause with
    | differs => exact of_ite_next (fun _ => h) (fun _ => h.withHbp _) e
    | framing => exact of_next (h.withHbp _) e
  · exact of_next h e

theorem execPanelFrameDropped_keepsPlanLaw (e : execPanelFrameDropped s = .next t) : t.PlanLaw := by
  unfold execPanelFrameDropped at e
  split at e
  · exact of_next (h.withPnl _) e
  · exact of_next h e

theorem execFrameDiscarded_keepsPlanLaw (e : execFrameDiscarded s = .next t) : t.PlanLaw := by
  unfold execFrameDiscarded at e
  split at e
  · exact of_next (h.withSvl _) e
  · exact of_next h e

/-- R68, R76, R78, R79: whatever the command, its meaning keeps the plan law. -/
theorem State.PlanLaw.exec (c : Instr) (e : exec c s = .next t) : t.PlanLaw := by
  cases c with
  | reset => exact of_next (State.PlanLaw.ofReset s) e
  | readCompletion image trays =>
    exact of_ite_next (fun starting => (h.sampleTrays trays).readComplete _ starting) (fun _ => h) e
  | scanEvent n sample => exact of_ite_next (fun _ => h.scan n sample) (fun _ => h) e
  | timedWindowStart =>
    exact of_ite_next (fun _ => h.withOvertaken _) (fun _ => h.onExpiry _ _ fun _ _ => State.PlanLaw.ofFill _ _) e
  | slotBoundary => exact execSlotBoundary_keepsPlanLaw h e
  | feederWarnAssertion => exact of_ite_next (fun _ => (h.withFsc _).warnAsserted) (fun _ => h.withFsc _) e
  | feederWarnRelease => exact of_ite_next (fun _ => (h.withFsc _).warnReleased) (fun _ => h.withFsc _) e
  | releaseHoldExpiry => exact of_next (h.onExpiry _ _ fun _ g => g.withFsc _) e
  | doorOpenEvent n => exact of_ite_next (fun _ => (h.openDoor n).doorOpened n) (fun _ => h) e
  | doorCloseEvent n tray => exact of_ite_next (fun _ => h) (fun _ => (h.shutDoor n tray).doorClosed n) e
  | unlatchTimerExpiry n => exact of_next (h.onExpiry _ _ fun _ g => g.unlatchExpired n) e
  | ajarTimerExpiry n => exact of_next (h.onExpiry _ _ fun _ g => g.ajarExpired n) e
  | attemptStart | arbitrationLost | framingError => exact of_ite_next (fun _ => h.withHbp _) (fun _ => h) e
  | erroredAttempt cause => exact execErroredAttempt_keepsPlanLaw h cause e
  | frameEnd => exact of_next h.frameEnd e
  | fallingEdge => exact of_next (h.withHbp _) e
  | present | confirm | abandon | presentStaff => exact of_next (h.takeMessage _) e
  | panelBadMessage f => exact of_next (h.takePanelFault f) e
  | panelFrameDropped => exact execPanelFrameDropped_keepsPlanLaw h e
  | panelGapTimerExpiry =>
    exact of_ite_next (fun _ => h.withOvertaken _) (fun _ => h.onExpiry _ _ fun _ g => g.panelGapExpired) e
  | panelResponseSent => exact of_next (h.withPnl _) e
  | claimTimerExpiry =>
    exact of_ite_next (fun _ => h.withOvertaken _) (fun _ => h.onExpiry _ _ fun _ g => g.endClaim) e
  | throttleTimerExpiry => exact of_next (h.onExpiry _ _ fun _ g => g.withPnl _) e
  | panelByteReceived b framingError => exact of_next (h.panelByte b framingError) e
  | book | load | abortLoad | cancel | queryBank | fetch | release | hideLocker | staffOpen =>
    exact of_next (h.serve _) e
  | queryOrder _ trays | queryLocker _ trays | showLocker _ trays => exact of_next ((h.sampleTrays trays).serve _) e
  | badFrame f => exact of_next (h.serveFault f) e
  | frameDiscarded => exact execFrameDiscarded_keepsPlanLaw h e
  | gapTimerExpiry =>
    exact of_ite_next (fun _ => h.withOvertaken _) (fun _ => h.onExpiry _ _ fun _ g => g.gapExpired) e
  | responseSent => exact of_next (h.withSvl _) e
  | serviceByteReceived b framingError trays => exact of_next ((h.sampleTrays trays).serviceByte b framingError) e

end commands

/-- R79: the plan law bounds the heaters that are on by the layers of the plan. -/
theorem State.PlanLaw.heatersOn_le {s : State} (h : s.PlanLaw) : s.heatersOn ≤ s.hdf.elements := by
  cases current : s.hdf.currentSlot with
  | none =>
    have dark : allLockers.filter (fun n => (s.locker n).heaterOn) = [] := by
      refine List.filter_eq_nil_iff.mpr fun n _ on => ?_
      obtain ⟨j, slot, -⟩ := h.placed n on
      exact absurd (current.symm.trans slot) (by simp)
    simp [State.heatersOn, dark]
  | some j =>
    have placed : ∀ n, (s.locker n).heaterOn = true → placedIn s.hdf.plan j n = true := by
      intro n on
      obtain ⟨k, slot, placed⟩ := h.placed n on
      exact Option.some.inj (current.symm.trans slot) ▸ placed
    have inSlot : allLockers.filter (fun n => (s.locker n).heaterOn) ⊆ lockersIn s.hdf.plan j := fun n member =>
      List.mem_filter.mpr ⟨allLockers_mem n, placed n (List.mem_filter.mp member).2⟩
    calc s.heatersOn
      _ ≤ (lockersIn s.hdf.plan j).length := List.Nodup.length_le_of_subset (allLockers_nodup.filter _) inSlot
      _ ≤ s.hdf.plan.length := lockersIn_length_le s.hdf.plan j
      _ = s.hdf.elements := h.layers

/-! ### The obligation -/

/-- Settles O59: the plan law is a step invariant by itself, each meaning keeping it; a slot of N layers holds at most N
lockers. -/
theorem everyStepKeepsPlanLaw : Obligations.EveryStepKeepsPlanLaw := by
  unfold Obligations.EveryStepKeepsPlanLaw
  exact ⟨fun _ _ _ h e => step_keeps (fun _ g => g.advance 1) (fun c _ _ g => g.exec c)
    (fun _ _ g => g.same rfl rfl rfl) h e, fun _ h => h.heatersOn_le⟩

end Sys2Proof.Machine

/-! PROOFS. HDF: the snapshot of a window start, and the timed window start block by block (R69 to R75,
chapters 5 to 7). -/

namespace Sys2Proof.Machine

/-! ### The record that the snapshot leaves (R71 to R74) -/

/-- R71: a locker that is not eligible. -/
def Locker.uncalled (l : Locker) : Locker := { l with call := false, cls := .none, request := 0 }

theorem State.callLocker_of_ineligible (s : State) {l : Locker} (ineligible : l.eligible s.cfg.overtemp = false) :
    s.callLocker l = l.uncalled := by
  unfold State.callLocker
  split
  · rfl
  · rw [if_neg (by simp [ineligible])]
    rfl

/-- R6: what an ineligible locker lacks. -/
theorem Locker.eligible_eq_false {l : Locker} {overtemp : Nat}
    (lost : (l.state ≠ .booked ∧ l.state ≠ .holding) ∨ l.doorShut = false ∨ l.reading = .fault
      ∨ ∃ v, l.reading = .valid v ∧ overtemp ≤ v.val) : l.eligible overtemp = false := by
  rcases lost with ⟨notBooked, notHolding⟩ | opened | fault | ⟨v, valid, hot⟩
  · have cold : l.state.heatable = false := by
      cases state : l.state with
      | booked => exact absurd state notBooked
      | holding => exact absurd state notHolding
      | out | free | loading | opened | lockout | clearing | filing => rfl
    simp [Locker.eligible, cold]
  · simp [Locker.eligible, opened]
  · simp [Locker.eligible, fault, readingEligible]
  · simp [Locker.eligible, valid, readingEligible, hot]

theorem Locker.eligible_eq_true {l : Locker} {overtemp : Nat} {v : Fin 255}
    (state : l.state = .booked ∨ l.state = .holding) (shut : l.doorShut = true) (valid : l.reading = .valid v)
    (cool : v.val < overtemp) : l.eligible overtemp = true := by
  have heatable : l.state.heatable = true := by
    rcases state with state | state <;> rw [state] <;> rfl
  simp [Locker.eligible, heatable, shut, valid, readingEligible, cool]

/-- R72 to R74: an eligible locker, by its call. -/
theorem State.callLocker_of_eligible (s : State) {l : Locker} {v : Fin 255} (valid : l.reading = .valid v)
    (eligible : l.eligible s.cfg.overtemp = true) {rescue call : Bool}
    (isRescue : isRescue l.state v.val (floorOf (s.profileOf l)) = rescue)
    (called : (rescue || bandCall l.call v.val (s.heatSetpoint l) (lowerMargin (s.profileOf l))
      (upperMargin (s.profileOf l))) = call) :
    s.callLocker l = { l with
      call := call
      cls := classOf l.state rescue call
      request := if call then requestOf (s.heatSetpoint l) v.val else 0 } := by
  subst isRescue called
  simp [State.callLocker, valid, eligible]

/-- R72, R73: a rescue stands before the band. -/
theorem rescue_or_bandCall (rescue before : Bool) (reading setpoint lowerM upperM : Nat) :
    (rescue || bandCall before reading setpoint lowerM upperM) = if rescue then true
      else if reading + lowerM < setpoint then true else if setpoint + upperM ≤ reading then false else before := by
  cases rescue <;> rfl

/-- R44, R72: the setpoint of a heatable locker is its preheat setpoint or its active one. -/
theorem State.heatSetpoint_of_heatable (s : State) {l : Locker} (state : l.state = .booked ∨ l.state = .holding) :
    s.heatSetpoint l = if l.state = .holding
      then setpointOf (s.profileOf l) (activeSegment (s.profileOf l) l.holdElapsed)
      else setpointOf (s.profileOf l) 0 := by
  rcases state with booked | holding
  · rw [s.heatSetpoint_of_booked booked, if_neg (by simp [booked])]
  · rw [s.heatSetpoint_of_holding holding, if_pos holding]

/-- R74: clamp(setpoint − reading + 2, 2, 16), the three cases apart. -/
theorem requestOf_eq_clamp (setpoint reading : Nat) :
    requestOf setpoint reading = if setpoint + 2 < reading + 2 then 2
      else if reading + 16 < setpoint + 2 then 16 else max 2 (setpoint + 2 - reading) := by
  unfold requestOf
  split
  · omega
  · split <;> omega

@[simp] theorem State.setCalls_locker (s : State) (n : LockerNo) : s.setCalls.locker n = s.callLocker (s.locker n) :=
  State.eachLocker_locker s _ n

/-- Settles O13: the eligible and the ineligible locker apart, and the eligible one by its call. -/
theorem callClassAndRequest : Obligations.CallClassAndRequest := by
  unfold Obligations.CallClassAndRequest
  intro s l p sp
  refine ⟨fun lost => s.callLocker_of_ineligible (Locker.eligible_eq_false lost), ?_, s.setCalls_locker, rfl⟩
  intro v state shut valid cool rescue call
  have setpoint : s.heatSetpoint l = sp := s.heatSetpoint_of_heatable state
  have called : (rescue || bandCall l.call v.val (s.heatSetpoint l) (lowerMargin p) (upperMargin p)) = call := by
    rw [setpoint]
    exact rescue_or_bandCall rescue l.call v.val sp (lowerMargin p) (upperMargin p)
  have record := s.callLocker_of_eligible valid (Locker.eligible_eq_true state shut valid cool) rfl called
  rw [setpoint] at record
  refine ⟨fun off => ?_, fun on => ?_⟩
  · rw [record, off]
    rfl
  · rw [record, on, ← requestOf_eq_clamp]
    rfl

/-! ### The share (R120 to R122, R126, R134) -/

/-- R134: a shed that is due to lift lifts at the window start. -/
theorem Shed.settle_eq (shed : Shed) : shed.settle = if shed = .liftDue then .clear else shed := by
  cases shed <;> rfl

/-- R119, R120: a shed in force takes its part from what the margin leaves. -/
theorem feederEffective_eq (c : Config) (shed : Shed) :
    feederEffective c shed = c.feederBudget * 10 * (100 - c.margin) / 100
      * (100 - (if shed = .clear then 0 else c.shed)) / 100 := by
  cases shed <;> rfl

/-- R121: there is a branch budget while the local range is enabled. -/
theorem branchEffective_eq (c : Config) :
    branchEffective c = if c.localBase ≤ c.localLimit
      then some (c.branchBudget * 10 * (100 - c.margin) / 100) else none := by
  simp [branchEffective, localEnabled, rangeEnabled, afterMargin]

/-! ### The settlement of the period (R92, R109, R112 to R114) -/

/-- R109: PVT's part of a timed window start, field by field. -/
theorem Pvt.windowStart_eq {p : Pvt} (r : PeriodReport) (lone : Bool) (running : p.station.running = true) :
    p.windowStart r lone = { p with
      station := (p.windowStart r lone).station
      peers := agePeers p.peers
      unsentRun := unsentAfter p.unsentRun r
      listenCount := if p.station = .listening then p.listenCount + 1 else p.listenCount } := by
  cases station : p.station with
  | listening | joined | isolated => simp [Pvt.windowStart, station]
  | starting | halted => simp [station, Station.running] at running

/-- R112: LISTENING ends at its second window start, alone or not. -/
theorem settleListening_eq (count : Nat) (empty lone : Bool) :
    settleListening count empty lone
      = if count < 2 then .listening else if empty && !lone then .isolated else .joined := by
  cases empty <;> cases lone <;> rfl

/-- R113: JOINED ends with the third period unsent, and alone. -/
theorem settleJoined_eq (unsent : Nat) (empty lone : Bool) :
    settleJoined unsent empty lone = if 3 ≤ unsent ∨ (empty && !lone) = true then .isolated else .joined := by
  by_cases long : 3 ≤ unsent
  · simp [settleJoined, long]
  · simp [settleJoined, long]

/-- R114: ISOLATED ends with a DEMAND sent, not alone. -/
theorem settleIsolated_eq (r : PeriodResult) (empty lone : Bool) :
    settleIsolated (reportOf r) empty lone
      = if r = .sent ∧ (empty && !lone) = false then .joined else .isolated := by
  cases r <;> cases empty <;> cases lone <;> rfl

/-- R112 to R114: the station state that a timed window start settles, by the one before. -/
theorem Pvt.windowStart_station (p : Pvt) (r : PeriodResult) (lone : Bool) :
    (p.windowStart (reportOf r) lone).station =
      let alone := (agePeers p.peers).isEmpty && !lone
      match p.station with
      | .listening => if p.listenCount + 1 < 2 then .listening else if alone then .isolated else .joined
      | .joined => if 3 ≤ unsentAfter p.unsentRun (reportOf r) ∨ alone = true then .isolated else .joined
      | .isolated => if r = .sent ∧ alone = false then .joined else .isolated
      | .starting => .starting
      | .halted => .halted := by
  cases station : p.station with
  | listening => simp only [Pvt.windowStart, station, settleListening_eq]
  | joined => simp only [Pvt.windowStart, station, settleJoined_eq]
  | isolated => simp only [Pvt.windowStart, station, settleIsolated_eq]
  | starting | halted => simp only [Pvt.windowStart, station]

theorem Pvt.windowStart_running (p : Pvt) (r : PeriodReport) (lone : Bool) :
    (p.windowStart r lone).station.running = p.station.running := by
  cases station : p.station with
  | listening =>
    simp only [Pvt.windowStart, station, settleListening]
    split
    · rfl
    · split <;> rfl
  | joined =>
    simp only [Pvt.windowStart, station, settleJoined]
    split
    · rfl
    · split <;> rfl
  | isolated =>
    cases r with
    | sent =>
      simp only [Pvt.windowStart, station, settleIsolated]
      split <;> rfl
    | notDue | notSent => simp only [Pvt.windowStart, station, settleIsolated]
  | starting | halted => simp only [Pvt.windowStart, station]

/-- R75: a running part hands its own demand but in LISTENING. -/
theorem demandToSend_of_running {st : Station} (own : Demand) (running : st.running = true) :
    demandToSend st own = if st = .listening then ⟨0, 0, 0⟩ else own := by
  cases st with
  | listening | joined | isolated => rfl
  | starting | halted => exact absurd running (by decide)

/-- R92: a period that closes unsent counts as a failed window. -/
theorem Hbp.settlePeriod_eq (h : Hbp) :
    h.settlePeriod = { h with
      failedWindows := if h.periodResult = .pending ∨ h.periodResult = .dropped
        then min 65535 (h.failedWindows + 1) else h.failedWindows } := by
  obtain ⟨_, _, _, _, _, result⟩ := h
  cases result <;> rfl

/-- R92, R97: a new frame leaves an attempt on the line going, and else a waiting sender. -/
theorem Hbp.takeDemand_eq (h : Hbp) (f : DemandFrame) :
    h.takeDemand f = { h with
      slot := some f
      attemptCount := 0
      periodResult := .pending
      sender := if h.onLine then h.sender else .waiting
      attemptFrame := if h.onLine then .superseded else h.attemptFrame } := by
  have sameLine : { h with slot := some f, attemptCount := 0, periodResult := .pending }.onLine = h.onLine := rfl
  simp only [Hbp.takeDemand, sameLine]
  split <;> rfl

/-! ### Fill and pack at a window start (R70 steps 6 to 8) -/

theorem State.fillAndPack_hdf (s : State) :
    s.fillAndPack.hdf =
      let n := elementsOf s.fsc.allowance s.cfg.heaterCode
      { elements := n
        slotBudget := 16 * n
        plan := packLayers n (packRun (fill (16 * n) (fillOrder s.fillItems)))
        currentSlot := some 0
        windowTimer := s.hdf.windowTimer } := by
  simp [State.fillAndPack]

theorem State.fillAndPack_locker (s : State) (n : LockerNo) :
    s.fillAndPack.locker n =
      let duty := dutyIn (fill (16 * elementsOf s.fsc.allowance s.cfg.heaterCode) (fillOrder s.fillItems)) n
      { s.locker n with
        duty := duty
        heaterOn := placedIn s.fillAndPack.hdf.plan 0 n && decide (0 < duty) } := by
  simp [State.fillAndPack]

theorem State.deficitOf_congr {s t : State} (slots : t.slots = s.slots) (l : Locker) :
    t.deficitOf l = s.deficitOf l := by
  simp [State.deficitOf, State.heatSetpoint, State.setpointFor, State.profileOf, slots]

theorem State.fillItems_congr {s t : State} (lockers : ∀ n, t.locker n = s.locker n) (slots : t.slots = s.slots) :
    t.fillItems = s.fillItems := by
  simp [State.fillItems, lockers, State.deficitOf_congr slots]

theorem State.ownDemand_congr {s t : State} (lockers : ∀ n, t.locker n = s.locker n) (cfg : t.cfg = s.cfg) :
    t.ownDemand = s.ownDemand := by
  simp [State.ownDemand, State.classUnits, lockers, cfg]

/-- R76 to R79: the fill and the pack after the calls of a snapshot, under the allowance then in force. -/
theorem State.WindowPlanned.ofFillAndPack {s u : State} (lockers : ∀ n, u.locker n = s.callLocker (s.locker n))
    (slots : u.slots = s.slots) (cfg : u.cfg = s.cfg) (timer : u.hdf.windowTimer = some 0) :
    s.WindowPlanned u.fillAndPack u.fsc.allowance := by
  have items : u.fillItems = s.setCalls.fillItems :=
    State.fillItems_congr (fun n => by rw [lockers, State.setCalls_locker]) (by rw [slots, State.setCalls_slots])
  constructor
  · rw [State.fillAndPack_hdf, items, cfg, timer]
    rfl
  · intro n
    rw [State.fillAndPack_locker, items, cfg, lockers]
    rfl

/-! ### The timed window start (R70) -/

@[simp] theorem State.callLocker_state (s : State) (l : Locker) : (s.callLocker l).state = l.state := by
  unfold State.callLocker
  split
  · rfl
  · split <;> rfl

theorem State.freeCount_congr {s t : State} (states : ∀ n, (t.locker n).state = (s.locker n).state) :
    t.freeCount = s.freeCount := by
  simp [State.freeCount, states]

@[simp] theorem State.restartWindow_locker (s : State) (n : LockerNo) : s.restartWindow.locker n = s.locker n := rfl

@[simp] theorem State.settleWindow_locker (s : State) (n : LockerNo) : s.settleWindow.locker n = s.locker n := rfl

@[simp] theorem State.handDemand_locker (s : State) (n : LockerNo) : s.handDemand.locker n = s.locker n := rfl

/-- The calls of a snapshot go by the profiles, the configuration and the record alone. -/
theorem State.callLocker_congr {s t : State} (slots : t.slots = s.slots) (cfg : t.cfg = s.cfg) (l : Locker) :
    t.callLocker l = s.callLocker l := by
  simp [State.callLocker, State.heatSetpoint, State.setpointFor, State.profileOf, slots, cfg]

/-- The state that a timed window start hands to the share: the period settled, the calls set, the demand handed (R70
steps 1 to 4). -/
def State.handed (s : State) : State := s.restartWindow.settleWindow.setCalls.handDemand

theorem State.timedStart_eq (s : State) : s.timedStart = (s.handed.share s.handed.ownDemand).fillAndPack := rfl

section handed
variable (s : State)

@[simp] theorem State.handed_slots : s.handed.slots = s.slots := by simp [State.handed]
@[simp] theorem State.handed_cfg : s.handed.cfg = s.cfg := by simp [State.handed]
@[simp] theorem State.handed_hdf : s.handed.hdf = { s.hdf with windowTimer := some 0 } := by
  simp [State.handed, State.restartWindow]
@[simp] theorem State.handed_pvt :
    s.handed.pvt = s.pvt.windowStart (reportOf s.hbp.periodResult) s.cfg.lonePermitted := by
  simp [State.handed, State.settleWindow]
@[simp] theorem State.handed_fsc : s.handed.fsc = { s.fsc with shed := s.fsc.shed.settle } := by
  simp [State.handed, State.settleWindow]

@[simp] theorem State.handed_locker (n : LockerNo) : s.handed.locker n = s.callLocker (s.locker n) := by
  simp only [State.handed, State.handDemand_locker, State.setCalls_locker, State.settleWindow_locker,
    State.restartWindow_locker]
  exact State.callLocker_congr (by simp) (by simp) _

@[simp] theorem State.handed_ownDemand : s.handed.ownDemand = s.setCalls.ownDemand :=
  State.ownDemand_congr (fun n => by rw [State.handed_locker, State.setCalls_locker])
    (by rw [State.handed_cfg, State.setCalls_cfg])

/-- R75, R88: the frame handed carries the demand of the snapshot and the free count. -/
theorem State.handed_hbp : s.handed.hbp = s.hbp.settlePeriod.takeDemand (demandFrame s.cfg.station
    (demandToSend s.handed.pvt.station s.setCalls.ownDemand) s.freeCount) := by
  have own : s.restartWindow.settleWindow.setCalls.ownDemand = s.setCalls.ownDemand := by
    rw [← s.handed_ownDemand]
    exact State.ownDemand_congr (fun _ => rfl) (by simp)
  have free : s.restartWindow.settleWindow.setCalls.freeCount = s.freeCount :=
    State.freeCount_congr fun n => by simp
  have closed : s.restartWindow.settleWindow.setCalls.hbp = s.hbp.settlePeriod := by simp [State.settleWindow]
  simp only [State.handed, State.handDemand, State.withHbp_hbp, State.withHbp_pvt, own, free, closed]
  simp

end handed

/-! ### The timed window start, block by block -/

theorem State.timedStart_pvt (s : State) :
    s.timedStart.pvt = s.pvt.windowStart (reportOf s.hbp.periodResult) s.cfg.lonePermitted := by
  simp [State.timedStart_eq]

theorem State.timedStart_hbp (s : State) :
    s.timedStart.hbp = s.hbp.settlePeriod.takeDemand (demandFrame s.cfg.station
      (demandToSend s.timedStart.pvt.station s.setCalls.ownDemand) s.freeCount) := by
  simp [State.timedStart_eq, State.handed_hbp]

theorem State.timedStart_fsc (s : State) :
    s.timedStart.fsc = { s.fsc with
      shed := s.fsc.shed.settle
      feederBudget := feederEffective s.cfg s.fsc.shed.settle
      branchBudget := branchEffective s.cfg
      allowance := allowanceOf s.cfg s.timedStart.pvt s.setCalls.ownDemand
        (feederEffective s.cfg s.fsc.shed.settle) (branchEffective s.cfg) } := by
  simp [State.timedStart_eq, State.share]

theorem State.timedStart_windowPlanned (s : State) : s.WindowPlanned s.timedStart s.timedStart.fsc.allowance := by
  rw [State.timedStart_eq, State.fillAndPack_fsc]
  refine State.WindowPlanned.ofFillAndPack (fun n => ?_) (by simp) (by simp) (by simp)
  exact s.handed_locker n

/-! ### The obligation -/

/-- A timed window start that is due and not overtaken is the whole of the event (R70, R83). -/
theorem exec_timedWindowStart_of_due {s : State} {v : Nat} (timer : s.hdf.windowTimer = some v) (due : windowEnd ≤ v)
    (present : s.overtaken.windowStart = false) : exec .timedWindowStart s = .next s.timedStart := by
  change execTimedWindowStart s = _
  rw [execTimedWindowStart_due s present, timer, State.onExpiry_atEnd s due]

/-- Settles O14: the start is the share, the fill and the pack of the state that its first steps leave, taken block by
block. -/
theorem timedWindowStartEffect : Obligations.TimedWindowStartEffect := by
  unfold Obligations.TimedWindowStartEffect
  intro s v running timer due present unsent peers alone listen station own sent shed feeder branch
  have unsentEq : unsentAfter s.pvt.unsentRun (reportOf s.hbp.periodResult) = unsent := by
    dsimp only [unsent]
    cases s.hbp.periodResult <;> rfl
  have stationEq : s.timedStart.pvt.station = station := by
    rw [State.timedStart_pvt, Pvt.windowStart_station, unsentEq]
    rfl
  have shedEq : s.fsc.shed.settle = shed := Shed.settle_eq _
  have feederEq : feederEffective s.cfg shed = feeder := feederEffective_eq _ _
  have branchEq : branchEffective s.cfg = branch := branchEffective_eq _
  have sentEq : demandToSend s.timedStart.pvt.station own = sent := by
    have stillRunning : s.timedStart.pvt.station.running = true := by
      rw [State.timedStart_pvt, Pvt.windowStart_running]
      exact running
    rw [demandToSend_of_running own stillRunning, stationEq]
  refine ⟨s.timedStart, exec_timedWindowStart_of_due timer due present, ?_, ?_, ?_, s.timedStart_windowPlanned,
    s.timedStart_filing, s.timedStart_slots, s.timedStart_bkc, s.timedStart_pnl, s.timedStart_ocl, s.timedStart_svl,
    s.timedStart_cfl, s.timedStart_pending, s.timedStart_overtaken⟩
  · rw [← stationEq, ← unsentEq, State.timedStart_pvt]
    exact Pvt.windowStart_eq _ _ running
  · rw [State.timedStart_hbp, Hbp.takeDemand_eq, Hbp.settlePeriod_eq, ← sentEq]
    rfl
  · rw [State.timedStart_fsc, shedEq, feederEq, branchEq]

end Sys2Proof.Machine

/-! PROOFS. HBP: the frame end of an own attempt (R96, R97). -/

namespace Sys2Proof.Machine

/-! ### The completed attempt (R96, R97) -/

theorem exec_frameEnd (s : State) : exec .frameEnd s = .next s.frameEnd := rfl

/-- R96: the frame in the slot has been sent. -/
theorem Hbp.completeAttempt_current {h : Hbp} (current : h.attemptFrame = .current) :
    h.completeAttempt = { h with
      attemptFrame := .none
      driven := none
      slot := none
      sender := .idle
      attemptCount := 0
      periodResult := .sent } := by
  rw [Hbp.completeAttempt, if_pos current]

/-- R97: a newer frame has taken the slot, and waits. -/
theorem Hbp.completeAttempt_superseded {h : Hbp} (superseded : h.attemptFrame ≠ .current) :
    h.completeAttempt = { h with attemptFrame := .none, driven := none, sender := .waiting } := by
  rw [Hbp.completeAttempt, if_neg superseded]

/-- R96, R98: the frame end of an attempt that has driven its 78 cells. -/
theorem State.frameEnd_of_driven {s : State} (inFrame : s.hbp.path = .inFrame) (onLine : s.hbp.onLine = true)
    (driven : 78 ≤ s.hbp.cellsReceived) :
    s.frameEnd = s.withHbp { s.hbp with lineIdle := true }.completeAttempt.toReady := by
  simp only [State.frameEnd, State.withHbp_hbp, inFrame]
  exact (if_pos onLine).trans (if_pos driven)

/-! ### The obligation -/

/-- Settles O33: by whether the attempt's frame is still the one in the slot. -/
theorem frameEndCompletesAttempt : Obligations.FrameEndCompletesAttempt := by
  unfold Obligations.FrameEndCompletesAttempt
  intro s inFrame onLine driven h
  rw [exec_frameEnd, State.frameEnd_of_driven inFrame onLine driven]
  constructor
  · intro current
    rw [Hbp.completeAttempt_current (h := { s.hbp with lineIdle := true }) current]
    rfl
  · intro superseded
    rw [Hbp.completeAttempt_superseded (h := { s.hbp with lineIdle := true }) superseded]
    rfl

end Sys2Proof.Machine

/-! PROOFS. HBP: the cells of a DEMAND frame as numbers and back, the layout of a frame, and its check word (R88, R89,
R99). -/

namespace Sys2Proof.Machine

/-! ### Numbers as cells (R88) -/

@[simp] theorem toCells_length (w n : Nat) : (toCells w n).length = w := by
  induction w with
  | zero => rfl
  | succ w ih => simp [toCells, ih]

/-- The cells of a number, given place by place: cell `i` carries the bit of weight `2 ^ (w - 1 - i)`. -/
theorem toCells_eq_map (w n : Nat) :
    toCells w n = (List.range w).map fun i => decide (n / 2 ^ (w - 1 - i) % 2 = 1) := by
  induction w with
  | zero => rfl
  | succ w ih =>
    rw [toCells, ih, List.range_succ_eq_map, List.map_cons, List.map_map]
    refine congrArg (List.cons _) (List.map_congr_left fun i _ => ?_)
    rw [Function.comp_apply, show w + 1 - 1 - (i + 1) = w - 1 - i by omega]

theorem foldl_cells (n : Nat) (cells : List Bool) :
    cells.foldl (fun m b => 2 * m + b.toNat) n = n * 2 ^ cells.length + ofCells cells := by
  induction cells generalizing n with
  | nil => simp [ofCells]
  | cons b rest ih =>
    rw [ofCells, List.foldl_cons, List.foldl_cons, ih, ih (2 * 0 + b.toNat), List.length_cons,
      Nat.pow_succ, Nat.mul_zero, Nat.zero_add, Nat.add_mul, Nat.add_assoc, Nat.mul_comm 2 n, Nat.mul_assoc,
      Nat.mul_comm 2]

theorem ofCells_cons (b : Bool) (rest : List Bool) :
    ofCells (b :: rest) = b.toNat * 2 ^ rest.length + ofCells rest := by
  rw [ofCells, List.foldl_cons, foldl_cells, Nat.mul_zero, Nat.zero_add]

theorem ofCells_lt (cells : List Bool) : ofCells cells < 2 ^ cells.length := by
  induction cells with
  | nil => simp [ofCells]
  | cons b rest ih =>
    rw [ofCells_cons, List.length_cons, Nat.pow_succ]
    cases b <;> simp <;> omega

theorem ofCells_toCells (w n : Nat) : ofCells (toCells w n) = n % 2 ^ w := by
  induction w with
  | zero => simp [toCells, ofCells, Nat.mod_one]
  | succ w ih =>
    have topBit : (decide (n / 2 ^ w % 2 = 1)).toNat = n / 2 ^ w % 2 := by
      rcases Nat.mod_two_eq_zero_or_one (n / 2 ^ w) with h | h <;> simp [h]
    rw [toCells, ofCells_cons, toCells_length, ih, topBit, Nat.mod_pow_succ, Nat.add_comm,
      Nat.mul_comm (2 ^ w)]

/-- Cells of one length that spell one number are the same cells: their first cell is the number's top bit. -/
theorem ofCells_inj {cells others : List Bool} (length : cells.length = others.length)
    (number : ofCells cells = ofCells others) : cells = others := by
  induction cells generalizing others with
  | nil => exact (List.eq_nil_of_length_eq_zero length.symm).symm
  | cons b rest ih =>
    obtain _ | ⟨c, tail⟩ := others
    · simp at length
    have sameLength : rest.length = tail.length := by simpa using length
    have below := ofCells_lt rest
    have belowTail := ofCells_lt tail
    rw [ofCells_cons, ofCells_cons, sameLength] at number
    rw [sameLength] at below
    have first : b = c := by
      cases b <;> cases c <;> simp at number ⊢ <;> omega
    subst first
    rw [ih sameLength (Nat.add_left_cancel number)]

theorem toCells_ofCells (cells : List Bool) : toCells cells.length (ofCells cells) = cells :=
  ofCells_inj (toCells_length _ _) (by rw [ofCells_toCells, Nat.mod_eq_of_lt (ofCells_lt cells)])

/-! ### A field among the cells of a frame (R88) -/

/-- A field that stands whole in the first part of the cells. -/
theorem cellField_append_left {front : List Bool} {first width : Nat} (back : List Bool)
    (within : first - 1 + width ≤ front.length) :
    cellField (front ++ back) first width = cellField front first width := by
  rw [cellField, cellField, List.drop_append_of_le_length (by omega),
    List.take_append_of_le_length (by rw [List.length_drop]; omega)]

/-- The last field of some cells. -/
theorem cellField_append_right {front back : List Bool} {first width : Nat}
    (start : first = front.length + 1) (whole : width = back.length) :
    cellField (front ++ back) first width = ofCells back := by
  rw [cellField, start, whole, Nat.add_sub_cancel, List.drop_left, List.take_length]

/-- A field of one cell. -/
theorem cellField_singleton (b : Bool) : cellField [b] 1 1 = b.toNat := by simp [cellField, ofCells]

/-- The cells up to a field, and then those that spell it, are the cells up to its end. -/
theorem take_append_toCells_cellField {cells : List Bool} {before first width upTo : Nat} (start : first = before + 1)
    (stop : before + width = upTo) (fits : upTo ≤ cells.length) :
    cells.take before ++ toCells width (cellField cells first width) = cells.take upTo := by
  have length : ((cells.drop before).take width).length = width := by
    rw [List.length_take, List.length_drop]
    omega
  have spelled := toCells_ofCells ((cells.drop before).take width)
  rw [length] at spelled
  rw [cellField, start, Nat.add_sub_cancel, spelled, ← List.take_add, stop]

/-! ### The layout of a frame (R88) -/

/-- The fields of a frame fit their cells. -/
structure DemandFrame.Fits (f : DemandFrame) : Prop where
  station : f.station < 2 ^ 5
  d1 : f.demand.d1 < 2 ^ 16
  d2 : f.demand.d2 < 2 ^ 16
  d3 : f.demand.d3 < 2 ^ 16
  free : f.free < 2 ^ 5
  pad : f.pad < 2 ^ 3

theorem DemandFrame.Fits.header_lt {f : DemandFrame} (fits : f.Fits) : f.header < 2 ^ 6 := by
  have := fits.station
  have := f.urgency.toNat_le
  unfold DemandFrame.header
  omega

/-- The cells that carry the fields of a frame and any check word. -/
def DemandFrame.spell (f : DemandFrame) (check : Nat) : List Bool :=
  [f.urgency] ++ toCells 5 f.station ++ toCells 16 f.demand.d1 ++ toCells 16 f.demand.d2
    ++ toCells 16 f.demand.d3 ++ toCells 5 f.free ++ toCells 3 f.pad ++ toCells 16 check

theorem DemandFrame.cells_eq_spell (f : DemandFrame) : f.cells = f.spell f.checkWord := rfl

@[simp] theorem DemandFrame.spell_length (f : DemandFrame) (check : Nat) : (f.spell check).length = 78 := by
  simp [DemandFrame.spell]

theorem checkOfCells_spell (f : DemandFrame) {check : Nat} (fits : check < 2 ^ 16) :
    checkOfCells (f.spell check) = check := by
  rw [checkOfCells, DemandFrame.spell, cellField_append_right (by simp) (by simp), ofCells_toCells,
    Nat.mod_eq_of_lt fits]

/-- Reading a frame's cells gives its fields, whatever the check word beside them. -/
theorem DemandFrame.ofCells_spell {f : DemandFrame} (fits : f.Fits) (check : Nat) :
    DemandFrame.ofCells (f.spell check) = f := by
  obtain ⟨station, d1, d2, d3, free, pad⟩ := fits
  have urgency : decide (f.urgency.toNat = 1) = f.urgency := by cases f.urgency <;> rfl
  simp (disch := simp) only [DemandFrame.ofCells, DemandFrame.spell, cellField_append_left, cellField_append_right,
    cellField_singleton, ofCells_toCells, Nat.mod_eq_of_lt station, Nat.mod_eq_of_lt d1, Nat.mod_eq_of_lt d2,
    Nat.mod_eq_of_lt d3, Nat.mod_eq_of_lt free, Nat.mod_eq_of_lt pad, urgency]

/-- The fields and the check word read from any 78 cells spell those cells: each field takes up where the one before it
ends. -/
theorem DemandFrame.spell_ofCells {cells : List Bool} (length : cells.length = 78) :
    (DemandFrame.ofCells cells).spell (checkOfCells cells) = cells := by
  have urgency : [decide (cellField cells 1 1 = 1)] = cells.take 1 := by
    obtain _ | ⟨b, rest⟩ := cells
    · simp at length
    · cases b <;> rfl
  rw [DemandFrame.spell, DemandFrame.ofCells, checkOfCells, urgency,
    take_append_toCells_cellField (upTo := 6) rfl rfl (by omega),
    take_append_toCells_cellField (upTo := 22) rfl rfl (by omega),
    take_append_toCells_cellField (upTo := 38) rfl rfl (by omega),
    take_append_toCells_cellField (upTo := 54) rfl rfl (by omega),
    take_append_toCells_cellField (upTo := 59) rfl rfl (by omega),
    take_append_toCells_cellField (upTo := 62) rfl rfl (by omega),
    take_append_toCells_cellField (upTo := 78) rfl rfl (by omega), List.take_of_length_le (Nat.le_of_eq length)]

/-! ### The check word (R89) -/

theorem onesAdd_lt {a b : Nat} (left : a < 2 ^ 16) (right : b < 2 ^ 16) : onesAdd a b < 2 ^ 16 := by
  unfold onesAdd
  split <;> omega

/-- The sum of R89 starts from the frame's header, which is one word. -/
theorem DemandFrame.Fits.checkWord_eq {f : DemandFrame} (fits : f.Fits) : f.checkWord =
    onesAdd (onesAdd (onesAdd (onesAdd f.header f.demand.d1) f.demand.d2) f.demand.d3) (f.free * 8 + f.pad) := by
  have header : onesAdd 0 f.header = f.header := by
    have := fits.header_lt
    rw [onesAdd, Nat.zero_add, if_neg (by omega)]
  rw [DemandFrame.checkWord, onesSum, List.foldl_cons, header]
  rfl

theorem DemandFrame.Fits.checkWord_lt {f : DemandFrame} (fits : f.Fits) : f.checkWord < 2 ^ 16 := by
  have last : f.free * 8 + f.pad < 2 ^ 16 := by
    have := fits.free
    have := fits.pad
    omega
  have header : f.header < 2 ^ 16 := Nat.lt_trans fits.header_lt (by decide)
  rw [fits.checkWord_eq]
  exact onesAdd_lt (onesAdd_lt (onesAdd_lt (onesAdd_lt header fits.d1) fits.d2) fits.d3) last

/-! ### The obligation -/

/-- Settles O35: a frame's cells spell its fields and its check word, and spelling and reading undo each other. -/
theorem demandFrameCellsRoundTrip : Obligations.DemandFrameCellsRoundTrip := by
  unfold Obligations.DemandFrameCellsRoundTrip
  intro bits add fields
  have spelled (f : DemandFrame) (check : Nat) : fields f ++ bits 16 check = f.spell check := by
    simp only [DemandFrame.spell, toCells_eq_map]
    rfl
  refine ⟨fun f station d1 d2 d3 free pad => ?_, fun cells length => ?_⟩
  · have fits : f.Fits := ⟨station, d1, d2, d3, free, pad⟩
    rw [spelled, f.cells_eq_spell]
    exact ⟨f.spell_length _, DemandFrame.ofCells_spell fits _, checkOfCells_spell f fits.checkWord_lt,
      fits.checkWord_lt, rfl, fits.checkWord_eq⟩
  · rw [spelled, DemandFrame.spell_ofCells length]

end Sys2Proof.Machine

/-! PROOFS. FSC: the sums of the peers' demands, the bounds of a level walk, and the allowance by the station state (R116,
R123, R125, R126). -/

namespace Sys2Proof.Machine

/-! ### The views (R116) -/

/-- R116: a view sums the demands of its peers class by class. -/
theorem sumDemand_eq (ps : List Peer) : sumDemand ps =
    ⟨(ps.map fun p => p.demand.d1).sum, (ps.map fun p => p.demand.d2).sum, (ps.map fun p => p.demand.d3).sum⟩ := by
  induction ps with
  | nil => rfl
  | cons p ps ih =>
    calc sumDemand (p :: ps) = p.demand.add (sumDemand ps) := rfl
      _ = _ := by rw [ih]; rfl

/-! ### The bounds of a level walk (R123) -/

section
variable {own total : Nat} (budget : Nat)

/-- R123: no class is granted more than its own demand. -/
theorem grantStep_grant_le_own : (grantStep own total budget).1 ≤ own := by
  unfold grantStep
  split
  · exact Nat.zero_le own
  split
  · exact Nat.le_refl own
  · next short =>
    have share : own * budget ≤ own * total := Nat.mul_le_mul_left own (by omega)
    exact Nat.div_le_of_le_mul (Nat.mul_comm own total ▸ share)

/-- R123: a class's grant and the budget it leaves come out of the budget it finds. A class that is short leaves nothing,
and its grant is its own part of the budget. -/
theorem grantStep_grant_add_left_le (part : own ≤ total) :
    (grantStep own total budget).1 + (grantStep own total budget).2 ≤ budget := by
  unfold grantStep
  split
  · exact Nat.le_of_eq (Nat.zero_add budget)
  split
  · show own + (budget - total) ≤ budget
    omega
  · show own * budget / total ≤ budget
    exact Nat.div_le_of_le_mul (Nat.mul_le_mul_right budget part)

theorem grantStep_grant_le_budget (part : own ≤ total) : (grantStep own total budget).1 ≤ budget :=
  Nat.le_trans (Nat.le_add_right ..) (grantStep_grant_add_left_le budget part)

end

/-- R123: what the later classes take from the budget that a class leaves fits, with its grant, into the budget it
finds. -/
theorem grantStep_grant_add_le {own total budget later : Nat} (part : own ≤ total)
    (fits : later ≤ (grantStep own total budget).2) : (grantStep own total budget).1 + later ≤ budget :=
  Nat.le_trans (Nat.add_le_add_left fits _) (grantStep_grant_add_left_le budget part)

/-- R123: a level walk grants no more than the own demand. -/
theorem levelWalk_total_le_own (own peers : Demand) (budget : Nat) : (levelWalk own peers budget).total ≤ own.total :=
  Nat.add_le_add
    (Nat.add_le_add (grantStep_grant_le_own _) (grantStep_grant_le_own _)) (grantStep_grant_le_own _)

/-- R123: a level walk grants no more than its level's budget, as each class takes its grant from what the class before
it leaves. -/
theorem levelWalk_total_le_budget (own peers : Demand) (budget : Nat) :
    (levelWalk own peers budget).total ≤ budget := by
  show _ + _ + _ ≤ budget
  rw [Nat.add_assoc]
  exact grantStep_grant_add_le (Nat.le_add_right ..) (grantStep_grant_add_le (Nat.le_add_right ..)
    (grantStep_grant_le_budget _ (Nat.le_add_right ..)))

/-! ### The lesser of two walks (R125) -/

theorem Demand.total_min_le_left (a b : Demand) : (a.min b).total ≤ a.total :=
  Nat.add_le_add (Nat.add_le_add (Nat.min_le_left ..) (Nat.min_le_left ..)) (Nat.min_le_left ..)

theorem Demand.total_min_le_right (a b : Demand) : (a.min b).total ≤ b.total :=
  Nat.add_le_add (Nat.add_le_add (Nat.min_le_right ..) (Nat.min_le_right ..)) (Nat.min_le_right ..)

/-- R125: the branch's walk can only lower what the feeder's walk grants. -/
theorem grants_total_le_feederWalk (own : Demand) (view : Pvt) (feeder : Nat) (branch : Option Nat) :
    (grants own view feeder branch).total ≤ (levelWalk own view.feederView feeder).total := by
  cases branch with
  | none => exact Nat.le_refl _
  | some lim => exact Demand.total_min_le_left ..

/-- R125: where a branch budget is in force, the grants keep to it. -/
theorem grants_total_le_branch (own : Demand) (view : Pvt) (feeder lim : Nat) :
    (grants own view feeder (some lim)).total ≤ lim :=
  Nat.le_trans (Demand.total_min_le_right ..) (levelWalk_total_le_budget ..)

/-! ### The allowance by the station state (R126) -/

section
variable {view : Pvt} (c : Config) (own : Demand) (feeder : Nat) (branch : Option Nat)

theorem allowanceOf_of_joined (joined : view.station = .joined) :
    allowanceOf c view own feeder branch = (grants own view feeder branch).total := by
  simp only [allowanceOf, joined]

theorem allowanceOf_of_isolated (isolated : view.station = .isolated) :
    allowanceOf c view own feeder branch = min (c.fallback * 10) own.total := by
  simp only [allowanceOf, isolated]

theorem allowanceOf_of_listening (listening : view.station = .listening) :
    allowanceOf c view own feeder branch = 0 := by
  simp only [allowanceOf, listening]

end

/-! ### The obligation -/

/-- Settles O19: by the station state, and in JOINED from the bounds of the two walks. -/
theorem allowanceByStation : Obligations.AllowanceByStation := by
  unfold Obligations.AllowanceByStation
  intro c view own feeder branch sum f b a
  have feederWalk : levelWalk own view.feederView feeder = f := by
    rw [Pvt.feederView, sumDemand_eq]
  have branchWalk (lim : Nat) : levelWalk own view.branchView lim = b lim := by
    rw [Pvt.branchView, sumDemand_eq]
  have allowance (joined : view.station = .joined) : a = (grants own view feeder branch).total :=
    allowanceOf_of_joined c own feeder branch joined
  refine ⟨fun joined noBranch => ?_, fun joined lim inForce => ⟨?_, ?_⟩, fun joined => ⟨?_, ?_⟩, fun isolated => ?_,
    fun listening => ?_⟩
  · rw [allowance joined, noBranch, grants, feederWalk]
    rfl
  · rw [allowance joined, inForce, grants, feederWalk, branchWalk]
    rfl
  · rw [allowance joined, inForce]
    exact grants_total_le_branch own view feeder lim
  · rw [allowance joined]
    exact Nat.le_trans (grants_total_le_feederWalk ..) (levelWalk_total_le_budget ..)
  · rw [allowance joined]
    exact Nat.le_trans (grants_total_le_feederWalk ..) (levelWalk_total_le_own ..)
  · exact allowanceOf_of_isolated c own feeder branch isolated
  · exact allowanceOf_of_listening c own feeder branch listening

end Sys2Proof.Machine

/-! PROOFS. FSC: a level walk class by class (R123), and the shed state at the release of FEEDER-WARN, at the end of the
release hold, and at an assertion with it (R130, R131, R133). -/

namespace Sys2Proof.Machine

/-! ### The rows of a level walk (R123) -/

section
variable {own total budget : Nat}

theorem grantStep_of_total_eq_zero (empty : total = 0) : grantStep own total budget = (0, budget) := by
  rw [grantStep, if_pos empty]

theorem grantStep_of_fits (demanded : 0 < total) (fits : total ≤ budget) :
    grantStep own total budget = (own, budget - total) := by
  rw [grantStep, if_neg (Nat.ne_of_gt demanded), if_pos fits]

theorem grantStep_of_short (short : budget < total) :
    grantStep own total budget = (own * budget / total, 0) := by
  rw [grantStep, if_neg (Nat.ne_zero_of_lt short), if_neg (Nat.not_le_of_gt short)]

end

/-- R123: the grant of a class and the budget after it are those of its row of the table. -/
theorem grantStep_followsTable (own total budget : Nat) :
    (total = 0 → (grantStep own total budget).1 = 0 ∧ (grantStep own total budget).2 = budget)
    ∧ (0 < total → total ≤ budget →
      (grantStep own total budget).1 = own ∧ (grantStep own total budget).2 = budget - total)
    ∧ (budget < total →
      (grantStep own total budget).1 = own * budget / total ∧ (grantStep own total budget).2 = 0) := by
  refine ⟨fun empty => ?_, fun demanded fits => ?_, fun short => ?_⟩
  · rw [grantStep_of_total_eq_zero empty]
    exact ⟨rfl, rfl⟩
  · rw [grantStep_of_fits demanded fits]
    exact ⟨rfl, rfl⟩
  · rw [grantStep_of_short short]
    exact ⟨rfl, rfl⟩

/-- Settles O18: the budget after a class is what its step leaves, and the next class begins with it. -/
theorem levelWalkFollowsTheTable : Obligations.LevelWalkFollowsTheTable := by
  unfold Obligations.LevelWalkFollowsTheTable
  intro own peers budget row
  exact ⟨_, _, _, grantStep_followsTable own.d1 (own.d1 + peers.d1) budget,
    grantStep_followsTable own.d2 (own.d2 + peers.d2) _, grantStep_followsTable own.d3 (own.d3 + peers.d3) _⟩

/-! ### FEEDER-WARN by the shed state (R130, R131) -/

section
variable {s : State}

theorem exec_feederWarnRelease_of_running (running : s.running = true) :
    exec .feederWarnRelease s = .next (s.withFsc { s.fsc with feederWarn := false }).warnReleased :=
  if_pos running

theorem exec_feederWarnAssertion_of_running (running : s.running = true) :
    exec .feederWarnAssertion s = .next (s.withFsc { s.fsc with feederWarn := true }).warnAsserted :=
  if_pos running

theorem State.warnReleased_of_warned (warned : s.fsc.shed = .warned) :
    s.warnReleased = s.withFsc { s.fsc with shed := .releasing, releaseHold := some 0 } := by
  simp only [State.warnReleased, warned]

/-- R131: an assertion while the release is held stops the hold, and brings no window start. -/
theorem State.warnAsserted_of_releasing (releasing : s.fsc.shed = .releasing) :
    s.warnAsserted = s.withFsc { s.fsc with shed := .warned, releaseHold := none } := by
  simp only [State.warnAsserted, releasing]

/-- R131: an assertion before the shed is lifted brings no window start. -/
theorem State.warnAsserted_of_liftDue (liftDue : s.fsc.shed = .liftDue) :
    s.warnAsserted = s.withFsc { s.fsc with shed := .warned } := by
  simp only [State.warnAsserted, liftDue]

/-! ### The release hold (R133) -/

theorem exec_releaseHoldExpiry (s : State) :
    exec .releaseHoldExpiry s = .next (s.onExpiry s.fsc.releaseHold releaseEnd State.releaseExpired) := rfl

theorem exec_releaseHoldExpiry_of_due {v : Nat} (timer : s.fsc.releaseHold = some v) (due : releaseEnd ≤ v) :
    exec .releaseHoldExpiry s = .next s.releaseExpired := by
  rw [exec_releaseHoldExpiry, timer, State.onExpiry_atEnd s due]

theorem exec_releaseHoldExpiry_of_idle (idle : s.fsc.releaseHold = none) : exec .releaseHoldExpiry s = .next s := by
  rw [exec_releaseHoldExpiry, idle, State.onExpiry_none]

end

/-! ### The obligations -/

/-- Settles O21: the line goes released, and FSC takes the release in WARNED. -/
theorem feederWarnReleaseStartsTheHold : Obligations.FeederWarnReleaseStartsTheHold := by
  unfold Obligations.FeederWarnReleaseStartsTheHold
  intro s running warned
  refine ⟨?_, rfl⟩
  rw [exec_feederWarnRelease_of_running running, State.warnReleased_of_warned (by exact warned)]
  rfl

/-- Settles O22: the assertion finds LIFT-DUE where the expiry is taken first, and RELEASING where it is taken second;
there it stops the hold, so that no expiry is left to happen. -/
theorem releaseHoldExpiryMakesLiftDue : Obligations.ReleaseHoldExpiryMakesLiftDue := by
  unfold Obligations.ReleaseHoldExpiryMakesLiftDue
  intro s timer
  refine ⟨exec_releaseHoldExpiry_of_due timer (Nat.le_refl _), rfl, ?_⟩
  intro running releasing warned
  refine ⟨?_, ?_, ?_⟩
  · rw [exec_feederWarnAssertion_of_running (by exact running), State.warnAsserted_of_liftDue rfl]
    rfl
  · rw [exec_feederWarnAssertion_of_running running, State.warnAsserted_of_releasing (by exact releasing)]
    rfl
  · exact exec_releaseHoldExpiry_of_idle rfl

end Sys2Proof.Machine

/-! PROOFS. The two serial lines: what keeps a property of the state through every byte, frame and gap of a line, and
what a service command that arrives with none in progress answers (R157, R158, R175 to R179). -/

namespace Sys2Proof.Machine

/-! ### Properties that the lines cannot disturb -/

/-- A property of the state that sees neither the receivers and responses of the two serial lines nor the flags of
overtaken expiries. -/
structure LineBlind (P : State → Prop) : Prop where
  svl       : ∀ s x, P s → P (s.withSvl x)
  pnl       : ∀ s x, P s → P (s.withPnl x)
  overtaken : ∀ s x, P s → P (s.withOvertaken x)

section service
variable {P : State → Prop} (blind : LineBlind P) {s : State} (h : P s)
include blind h

theorem LineBlind.serviceArrival {judge : State → State} (judged : ∀ s, P s → P (judge s)) :
    P (s.serviceArrival judge) := by
  cases busy : s.svl.inProgress with
  | none => exact s.serviceArrival_idle judge busy ▸ judged _ (blind.svl _ _ h)
  | some _ => exact s.serviceArrival_busy judge busy ▸ blind.svl _ _ h

theorem LineBlind.serveFault (f : FrameFault) : P (s.serveFault f) :=
  blind.serviceArrival h fun _ g => blind.svl _ _ g

variable (commands : ∀ s c, P s → P (s.runCommand c).1)
include commands

omit blind in
/-- R179: the station state decides whether the command runs. -/
theorem State.dispatch_keeps (c : ServiceCmd) : P (s.dispatch c).1 := by
  unfold State.dispatch
  split
  · exact h
  · split <;> exact h
  all_goals exact commands _ c h

theorem LineBlind.serve (c : ServiceCmd) : P (s.serve c) :=
  blind.serviceArrival h fun _ g => blind.svl _ _ (State.dispatch_keeps g commands c)

theorem LineBlind.serveBytes (kept : List Byte) : P (s.serveBytes kept) := by
  unfold State.serveBytes
  split
  · exact blind.serve h commands _
  · exact blind.serveFault h _

theorem LineBlind.serviceByte (b : Byte) (framingError : Bool) : P (s.serviceByte b framingError) := by
  have restarted : ∀ x, P (s.overtakeServiceGap.withSvl x) := fun x => blind.svl _ x (blind.overtaken _ _ h)
  simp only [State.serviceByte]
  split
  · split
    · exact blind.svl _ _ h
    · exact h
  · split
    · exact blind.serveFault h _
    · exact restarted _
  · split
    · exact blind.serveFault h _
    · split
      · exact blind.serveBytes h commands _
      · exact restarted _

omit commands in
theorem LineBlind.gapExpired : P s.gapExpired := by
  unfold State.gapExpired
  split
  · exact blind.svl _ _ h
  iterate 2 exact blind.serveFault h _

end service

section panel
variable {P : State → Prop} (blind : LineBlind P) {s : State} (h : P s)
include blind h

theorem LineBlind.panelArrival {take : State → State} (taken : ∀ s, P s → P (take s)) :
    P (s.panelArrival take) := by
  cases busy : s.pnl.sending with
  | none => exact s.panelArrival_idle take busy ▸ taken _ (blind.pnl _ _ h)
  | some _ => exact s.panelArrival_busy take busy ▸ blind.pnl _ _ h

theorem LineBlind.takePanelFault (f : PanelFault) : P (s.takePanelFault f) :=
  blind.panelArrival h fun _ g => blind.pnl _ _ g

variable (messages : ∀ s m, P s → P (s.runMessage m).1)
include messages

theorem LineBlind.takeMessage (m : PanelMsg) : P (s.takeMessage m) := by
  refine blind.panelArrival h fun u g => ?_
  unfold State.answerMessage
  split
  · exact blind.pnl _ _ (messages _ m g)
  · exact blind.pnl _ _ g

theorem LineBlind.takePanelBytes (kept : List Byte) : P (s.takePanelBytes kept) := by
  unfold State.takePanelBytes
  split
  · exact blind.takeMessage h messages _
  · exact blind.takePanelFault h _

theorem LineBlind.panelByte (b : Byte) (framingError : Bool) : P (s.panelByte b framingError) := by
  have restarted : ∀ x, P (s.overtakePanelGap.withPnl x) := fun x => blind.pnl _ x (blind.overtaken _ _ h)
  simp only [State.panelByte]
  split
  · split
    · exact blind.pnl _ _ h
    · exact h
  · split
    · exact blind.takePanelFault h _
    · exact restarted _
  · split
    · exact blind.takePanelFault h _
    · split
      · exact blind.takePanelBytes h messages _
      · exact restarted _

omit messages in
theorem LineBlind.panelGapExpired : P s.panelGapExpired := by
  unfold State.panelGapExpired
  split
  · exact blind.pnl _ _ h
  iterate 2 exact blind.takePanelFault h _

end panel

/-! ### A service command that arrives with none in progress -/

/-- R177 to R179: what the block decides is answered, where it decides the same with the receiver hunting again. -/
theorem State.serve_of_idle {s u : State} {c : ServiceCmd} {a : Answer} (running : s.running = true)
    (idle : s.svl.inProgress = none)
    (decided : (s.withSvl s.svl.toHunting).runCommand c = (u.withSvl s.svl.toHunting, a)) (line : u.svl = s.svl) :
    s.serve c = u.answered c.code a.code a.fields := by
  have dispatched : (s.withSvl s.svl.toHunting).dispatch c = (u.withSvl s.svl.toHunting, a) := by
    rw [← decided]
    cases station : s.pvt.station with
    | starting | halted => simp [State.running, station, Station.running] at running
    | listening | joined | isolated => simp only [State.dispatch, State.withSvl_pvt, station]
  rw [State.serve, State.serviceArrival_idle s _ idle, State.answerCommand, dispatched, State.respond_eq,
    State.answered, line]
  rfl

end Sys2Proof.Machine

/-! PROOFS. BKC: the load chain's law, which every step keeps (R138, R147, R148, R152). -/

namespace Sys2Proof.Machine

/-! ### What a record's update does to its state -/

@[simp] theorem Locker.refresh_state (l : Locker) : l.refresh.state = l.state := rfl

@[simp] theorem Locker.supervise_state (l : Locker) (floor overtemp : Nat) :
    (l.supervise floor overtemp).state = l.state := by
  unfold Locker.supervise
  split <;> rfl

/-- R3: no locker is set up in LOADING. -/
theorem Locker.setUp_notLoading (l : Locker) (hidden : Bool) : (l.setUp hidden).state ≠ .loading := by
  unfold Locker.setUp
  split
  · nofun
  · split <;> nofun

/-! ### What the chain's law rests on -/

/-- Only a change of BKC, or a locker that enters or leaves LOADING, can break the law. -/
theorem State.ChainLaw.same {s t : State} (h : s.ChainLaw) (bkc : t.bkc = s.bkc)
    (loading : ∀ n, (t.locker n).state = .loading ↔ (s.locker n).state = .loading) : t.ChainLaw where
  bound := by rw [bkc]; exact h.bound
  active := by rw [bkc]; exact h.active
  remaining := by rw [bkc]; exact h.remaining
  skipped := by rw [bkc]; exact h.skipped
  current n := by rw [bkc, loading]; exact h.current n

/-- The law knows nothing else of a locker than its state. -/
theorem State.ChainLaw.sameStates {s t : State} (h : s.ChainLaw) (bkc : t.bkc = s.bkc)
    (states : ∀ n, (t.locker n).state = (s.locker n).state) : t.ChainLaw :=
  h.same bkc fun n => by rw [states]

/-- R138: the chain's locker in LOADING is that of its first entry, so an empty chain has none. -/
theorem State.ChainLaw.notLoading_of_nil {s : State} (h : s.ChainLaw) (empty : s.bkc.entries = []) (n : LockerNo) :
    (s.locker n).state ≠ .loading := fun loading => by
  simpa [empty] using (h.current n).mp loading

/-- R138: a locker in LOADING is that of the current entry. -/
theorem State.ChainLaw.entries_of_loading {s : State} (h : s.ChainLaw) {n : LockerNo}
    (loading : (s.locker n).state = .loading) : ∃ e rest, s.bkc.entries = e :: rest ∧ e.locker = n := by
  simpa [List.head?_eq_some_iff] using (h.current n).mp loading

/-- R138, R147: a turn given while no locker is in LOADING leaves the one locker of the first entry there; every entry
passed over moves from the list to the skipped count. -/
theorem State.ChainLaw.ofGiveTurn {s : State} {es : List ChainEntry} (idle : ∀ n, (s.locker n).state ≠ .loading)
    (room : s.bkc.skipped + es.length ≤ 8) : (s.giveTurn es).ChainLaw := by
  induction es generalizing s with
  | nil => exact ⟨Nat.zero_le 8, rfl, rfl, room, fun n => iff_of_false (idle n) nofun⟩
  | cons e rest ih =>
    have length : (e :: rest).length = rest.length + 1 := rfl
    by_cases takes : (s.locker e.locker).state = .booked ∧ (s.locker e.locker).orderRef = some e.ref
    · rw [State.giveTurn_take s e rest takes]
      refine ⟨by simp; omega, rfl, rfl, room, fun n => ?_⟩
      by_cases same : n = e.locker
      · subst same
        exact iff_of_true (by simp [State.enterLoading, Locker.switchOff, Locker.unlock]) rfl
      · refine iff_of_false ?_ (by simpa using Ne.symm same)
        simpa [State.enterLoading, same] using idle n
    · rw [State.giveTurn_skip s e rest takes]
      exact ih idle (by simp only [State.withBkc_bkc]; omega)

/-! ### The chain's law under the shared operations -/

section shared
variable {s : State} (h : s.ChainLaw)
include h

theorem State.ChainLaw.setLocker {n : LockerNo} {l : Locker}
    (loading : l.state = .loading ↔ (s.locker n).state = .loading) : (s.setLocker n l).ChainLaw := by
  refine h.same rfl fun m => ?_
  by_cases same : m = n
  · subst same
    rw [State.setLocker_locker_same, loading]
  · rw [State.setLocker_locker_other s l same]

theorem State.ChainLaw.putLocker {n : LockerNo} {l : Locker}
    (loading : l.state = .loading ↔ (s.locker n).state = .loading) : (s.putLocker n l).ChainLaw :=
  h.setLocker loading

/-- A transition that neither begins nor ends in LOADING. -/
theorem State.ChainLaw.move {n : LockerNo} {l : Locker} (before : (s.locker n).state ≠ .loading)
    (after : l.state ≠ .loading) : (s.putLocker n l).ChainLaw :=
  h.putLocker (iff_of_false after before)

theorem State.ChainLaw.eachLocker {f : LockerNo → Locker → Locker}
    (states : ∀ n, (f n (s.locker n)).state = (s.locker n).state) : (s.eachLocker f).ChainLaw :=
  h.sameStates rfl fun n => by rw [State.eachLocker_locker, states]

theorem State.ChainLaw.sampleTrays (trays : Lines) : (s.sampleTrays trays).ChainLaw := h.eachLocker fun _ => rfl

theorem State.ChainLaw.advance (d : Nat) : (s.advance d).ChainLaw := by
  refine h.sameStates (by simp) fun n => ?_
  obtain ⟨_, _, _, kept⟩ := s.advance_locker_keeps d n
  rw [kept]

theorem State.ChainLaw.onExpiry (timer : Timer) (limit : Nat) {expire : State → State}
    (expired : ∀ s, s.ChainLaw → (expire s).ChainLaw) : (s.onExpiry timer limit expire).ChainLaw :=
  s.onExpiry_keeps timer limit expire h (fun d _ => h.advance d) expired

theorem State.ChainLaw.fileOrQueue (n : LockerNo) (r : OutcomeRecord) : (s.fileOrQueue n r).ChainLaw := by
  unfold State.fileOrQueue
  split
  · exact (h.putLocker (l := (s.locker n).clearBooking) Iff.rfl).sameStates rfl fun _ => rfl
  · exact (h.putLocker (l := { s.locker n with recordPending := true }) Iff.rfl).sameStates rfl fun _ => rfl

theorem State.ChainLaw.endInLockout {n : LockerNo} (c : Cause) (e : BookingEnd)
    (before : (s.locker n).state ≠ .loading) : (s.endInLockout n c e).ChainLaw := by
  have locked : (s.putLocker n ((s.locker n).lockOut c)).ChainLaw := h.move before nofun
  refine State.ChainLaw.fileOrQueue ?_ n _
  exact locked.sameStates (by simp) fun m => by rw [State.leftHolding_locker]

theorem State.ChainLaw.endCollected {n : LockerNo} (before : (s.locker n).state ≠ .loading) :
    (s.endCollected n).ChainLaw := by
  refine State.ChainLaw.fileOrQueue (h.move before ?_) n _
  dsimp only
  split <;> nofun

/-- R31: the locker of a filed record leaves FILING or stays in its state. -/
theorem State.ChainLaw.fileFromQueue : s.fileFromQueue.ChainLaw := by
  unfold State.fileFromQueue
  split
  · exact h
  next e rest _ =>
    refine State.ChainLaw.sameStates (h.putLocker (n := e.locker) ?_) rfl fun _ => rfl
    split
    next filing =>
      have before : (s.locker e.locker).state = .filing := filing
      exact iff_of_false nofun (by simp [before])
    next => exact Iff.rfl

/-- R148: with the exit from LOADING of the current entry's locker, the entry makes way for the next. -/
theorem State.ChainLaw.exitLoading {n : LockerNo} {l : Locker} (x : LoadingExit)
    (before : (s.locker n).state = .loading) (after : l.state ≠ .loading) :
    ((s.putLocker n l).loadingExit x).ChainLaw := by
  obtain ⟨e, rest, entries, current⟩ := h.entries_of_loading before
  refine State.ChainLaw.ofGiveTurn (fun m => ?_) ?_
  · rw [State.withBkc_locker]
    by_cases same : m = n
    · subst same
      rw [State.putLocker_locker_same]
      exact after
    · rw [State.putLocker_locker_other s l same, Ne, h.current m, entries]
      simpa [current] using Ne.symm same
  · have room := h.skipped
    simp only [State.withBkc_bkc, State.putLocker_bkc, entries, List.tail_cons, List.length_cons] at room ⊢
    split <;> omega

theorem State.ChainLaw.backToBooked {n : LockerNo} (x : LoadingExit) (before : (s.locker n).state = .loading) :
    ((s.backToBooked n).loadingExit x).ChainLaw :=
  h.exitLoading x before nofun

theorem State.ChainLaw.toClearing {n : LockerNo} (locked : (s.locker n).state = .lockout) :
    (s.toClearing n).ChainLaw :=
  h.move (by simp [locked]) nofun

end shared

/-- Of the serial lines the law knows nothing. -/
theorem State.ChainLaw.lineBlind : LineBlind State.ChainLaw where
  svl _ _ h := h.sameStates rfl fun _ => rfl
  pnl _ _ h := h.sameStates rfl fun _ => rfl
  overtaken _ _ h := h.sameStates rfl fun _ => rfl

/-! ### The chain's law under the events of the lockers -/

section lockers
variable {s : State} (h : s.ChainLaw) {n : LockerNo}
include h

theorem State.ChainLaw.closeLoading (loading : (s.locker n).state = .loading) : (s.closeLoading n).ChainLaw := by
  unfold State.closeLoading
  split
  · exact h.exitLoading _ loading nofun
  · exact h.backToBooked _ loading

theorem State.ChainLaw.reshut (before : (s.locker n).state ≠ .loading) : (s.reshut n).ChainLaw := by
  unfold State.reshut
  split
  · exact h.move before nofun
  · exact h.endInLockout _ _ before

theorem State.ChainLaw.closeOpened (before : (s.locker n).state ≠ .loading) : (s.closeOpened n).ChainLaw := by
  unfold State.closeOpened
  split
  · exact h.reshut before
  · exact h.endCollected before

theorem State.ChainLaw.backToLockout (before : (s.locker n).state ≠ .loading) : (s.backToLockout n).ChainLaw :=
  h.move before nofun

theorem State.ChainLaw.closeClearing (before : (s.locker n).state ≠ .loading) : (s.closeClearing n).ChainLaw := by
  simp only [State.closeClearing]
  split
  · exact h.backToLockout before
  · split <;> exact h.move before nofun

theorem State.ChainLaw.closeForced : (s.closeForced n).ChainLaw := by
  have asItIs : (s.putLocker n (s.locker n)).ChainLaw := h.putLocker Iff.rfl
  have foreign (before : (s.locker n).state ≠ .loading) : (s.putLocker n
      (if (s.locker n).trayPresent then (s.locker n).lockOut .foreign else s.locker n)).ChainLaw := by
    split
    · exact h.move before nofun
    · exact asItIs
  unfold State.closeForced
  cases state : (s.locker n).state with
  | free | filing => simpa only [state] using foreign (by simp [state])
  | booked =>
    simp only [state]
    split
    · exact h.endInLockout _ _ (by simp [state])
    · exact asItIs
  | lockout | out | loading | holding | opened | clearing => simpa only [state] using asItIs

/-- R9, R10, R12: no opening takes a locker out of LOADING; the one that ends a booking does so in HOLDING. -/
theorem State.ChainLaw.doorOpened : (s.doorOpened n).ChainLaw := by
  simp only [State.doorOpened]
  split
  · exact h
  iterate 4 exact h.putLocker Iff.rfl
  next holding =>
    have flagged : (s.putLocker n { s.locker n with tamper := true }).ChainLaw := h.putLocker Iff.rfl
    exact flagged.endInLockout _ _ (by simp [holding])
  iterate 3 exact h.putLocker Iff.rfl

theorem State.ChainLaw.doorClosed : (s.doorClosed n).ChainLaw := by
  simp only [State.doorClosed]
  split
  · refine State.ChainLaw.closeForced ?_
    exact h.setLocker Iff.rfl
  · cases state : (s.locker n).state with
    | loading => exact h.closeLoading state
    | opened => exact h.closeOpened (by simp [state])
    | clearing => exact h.closeClearing (by simp [state])
    | out | free | booked | holding | lockout | filing => exact h

/-- R9: the unlatch timer ends the visit to a locker in LOADING. -/
theorem State.ChainLaw.unlatchExpired (n : LockerNo) : (s.unlatchExpired n).ChainLaw := by
  have idle : (s.setLocker n { s.locker n with unlatchTimer := none }).ChainLaw := h.setLocker Iff.rfl
  unfold State.unlatchExpired
  generalize s.setLocker n { s.locker n with unlatchTimer := none } = u at idle
  cases state : (u.locker n).state with
  | loading => simpa only [state] using idle.backToBooked _ state
  | opened => simpa only [state] using idle.reshut (by simp [state])
  | clearing => simpa only [state] using idle.backToLockout (by simp [state])
  | out | free | booked | holding | lockout | filing => simpa only [state] using idle

theorem State.ChainLaw.ajarExpired (n : LockerNo) : (s.ajarExpired n).ChainLaw := h.putLocker Iff.rfl

theorem State.ChainLaw.reportReading : (s.reportReading n).ChainLaw := by
  unfold State.reportReading
  split
  · exact h
  · exact h.setLocker Iff.rfl

theorem State.ChainLaw.raise (c : ScanCause) : (s.raise n c).ChainLaw := by
  simp only [State.raise]
  split
  next holding => exact h.endInLockout _ _ (by simp [holding])
  next =>
    split
    · exact h.setLocker Iff.rfl
    · exact h
  all_goals exact h

theorem State.ChainLaw.superviseScan : (s.superviseScan n).ChainLaw := by
  have supervised : (s.setLocker n
      ((s.locker n).supervise (floorOf (s.profileOf (s.locker n))) s.cfg.overtemp)).ChainLaw :=
    h.setLocker (by simp)
  simp only [State.superviseScan]
  split
  · exact supervised.raise _
  · exact supervised

theorem State.ChainLaw.scan (n : LockerNo) (x : Reading) : (s.scan n x).ChainLaw := by
  have sampled : (s.setLocker n ((s.locker n).takeSample x)).ChainLaw := h.setLocker Iff.rfl
  simp only [State.scan]
  split
  · exact sampled.reportReading.superviseScan
  · exact sampled.superviseScan
  · exact sampled.reportReading
  all_goals exact sampled

end lockers

/-! ### The locker that BOOK chooses (R141) -/

theorem State.mem_freeLockers {s : State} {n : LockerNo} : n ∈ s.freeLockers ↔ (s.locker n).state = .free := by
  simp [State.freeLockers]

theorem State.mem_of_warmest {s : State} {ns : List LockerNo} {n : LockerNo} (best : s.warmest ns = some n) :
    n ∈ ns := by
  induction ns generalizing n with
  | nil => simp [State.warmest] at best
  | cons m rest ih =>
    unfold State.warmest at best
    cases later : s.warmest rest with
    | none => simp_all
    | some k =>
      simp only [later] at best
      split at best
      · exact Option.some.inj best ▸ List.mem_cons_of_mem m (ih later)
      · exact Option.some.inj best ▸ List.mem_cons_self

/-- R141: the locker chosen for a booking is in FREE. -/
theorem State.free_of_chooseLocker {s : State} {preferred : Option Byte} {n : LockerNo}
    (chosen : s.chooseLocker preferred = some n) : (s.locker n).state = .free := by
  have ranked : s.warmest s.freeLockers = some n → (s.locker n).state = .free := fun best =>
    State.mem_freeLockers.mp (State.mem_of_warmest best)
  unfold State.chooseLocker at chosen
  split at chosen
  · split at chosen
    next free => exact Option.some.inj chosen ▸ free
    next => exact ranked chosen
  · exact ranked chosen

/-! ### The chain's law under the commands of the service line -/

section service
variable {s : State} (h : s.ChainLaw)
include h

theorem State.ChainLaw.book (ref : OrderRef) (code : Code) (profile : Byte) (preferred : Option Byte) :
    (s.book ref code profile preferred).1.ChainLaw := by
  unfold State.book
  iterate 4
    split
    exact h
  split
  next n chosen => exact h.move (by simp [State.free_of_chooseLocker chosen]) nofun
  next => exact h

/-- R146: a LOAD that is accepted finds no locker in LOADING, and its refs are at most 8. -/
theorem State.ChainLaw.load (force : Bool) (refs : List OrderRef) : (s.load force refs).1.ChainLaw := by
  unfold State.load
  split
  · exact h
  next inactive =>
    split
    · exact h
    next size =>
      split
      · exact h
      · have empty : s.bkc.entries = [] := by simpa [inactive] using h.active
        have length : (s.entriesFor refs).length ≤ refs.length := List.length_filterMap_le ..
        exact State.ChainLaw.ofGiveTurn (h.notLoading_of_nil empty) (by simp only [State.withBkc_bkc]; omega)

theorem State.ChainLaw.relatch (n : LockerNo) : (s.relatch n).ChainLaw := by
  unfold State.relatch
  split
  next loading => exact h.backToBooked _ loading.1
  next => exact h

/-- R138: entries taken from behind the current one leave the law as it is. -/
theorem State.ChainLaw.withEntries {es : List ChainEntry} (head : es.head? = s.bkc.entries.head?)
    (length : es.length ≤ s.bkc.entries.length) : (s.withBkc (s.bkc.withEntries es)).ChainLaw where
  bound := Nat.le_trans length h.bound
  active := rfl
  remaining := rfl
  skipped := Nat.le_trans (Nat.add_le_add_left length _) h.skipped
  current n := by simpa [head] using h.current n

theorem State.ChainLaw.abortLoad : s.abortLoad.1.ChainLaw := by
  unfold State.abortLoad
  split
  · exact h
  next e waiting entries => exact (h.withEntries (es := [e]) (by simp [entries]) (by simp [entries])).relatch _

theorem State.ChainLaw.dropEntry (ref : OrderRef) : (s.dropEntry ref).ChainLaw :=
  h.withEntries (entriesWithout_head _ _) (entriesWithout_length _ _)

theorem State.ChainLaw.cancel (ref : OrderRef) : (s.cancel ref).1.ChainLaw := by
  unfold State.cancel
  split
  · exact h
  next n _ =>
    cases state : (s.locker n).state with
    | booked =>
      have freed : (s.freeBooked n).ChainLaw := h.move (by simp [state]) nofun
      exact freed.dropEntry ref
    | holding => exact h.endInLockout _ _ (by simp [state])
    | loading | opened | lockout | clearing | filing | out | free => exact h

theorem State.ChainLaw.release (ref : OrderRef) : (s.release ref).1.ChainLaw := by
  unfold State.release
  split
  · exact State.ChainLaw.fileFromQueue (h.sameStates rfl fun _ => rfl)
  · exact h

theorem State.ChainLaw.hide (b : Byte) : (s.hide b).1.ChainLaw := by
  unfold State.hide
  split
  · exact h
  · dsimp only
    iterate 2
      split
      exact h
    split
    · exact h
    next free =>
      split
      · exact h
      · exact h.move (by simp [Decidable.of_not_not free]) nofun

theorem State.ChainLaw.showCmd (b : Byte) : (s.showCmd b).1.ChainLaw := by
  unfold State.showCmd
  split
  · exact h
  · dsimp only
    split
    · exact h
    split
    · exact h
    next hidden =>
      have out := Decidable.of_not_not (not_or.mp hidden).1
      iterate 2
        split
        exact h
      exact h.move (by simp [out]) nofun

theorem State.ChainLaw.staffOpen (b : Byte) : (s.staffOpen b).1.ChainLaw := by
  unfold State.staffOpen
  split
  · exact h
  · split
    next locked => exact h.toClearing locked
    next => exact h

theorem State.ChainLaw.runCommand (c : ServiceCmd) : (s.runCommand c).1.ChainLaw := by
  cases c with
  | book ref code profile preferred => exact h.book ref code profile preferred
  | load force refs => exact h.load force refs
  | abortLoad => exact h.abortLoad
  | cancel ref => exact h.cancel ref
  | queryOrder | queryLocker | queryBank | fetch => exact h
  | release ref => exact h.release ref
  | hideLocker b => exact h.hide b
  | showLocker b => exact h.showCmd b
  | staffOpen b => exact h.staffOpen b

theorem State.ChainLaw.serve (c : ServiceCmd) : (s.serve c).ChainLaw :=
  State.ChainLaw.lineBlind.serve h (fun _ c g => g.runCommand c) c

end service

/-! ### The chain's law under the messages of the panel -/

section panel
variable {s : State} (h : s.ChainLaw)
include h

/-- R160: a PRESENT changes the claim and the misses at most. -/
theorem State.ChainLaw.present (code : Code) : (s.present code).1.ChainLaw := by
  have broken : s.breakClaim.ChainLaw := h.sameStates rfl fun _ => rfl
  have missed : s.breakClaim.noMatch.1.ChainLaw := broken.sameStates rfl fun _ => rfl
  unfold State.present
  split
  · exact broken
  · unfold State.lookUp
    split
    · exact missed
    · split
      · exact broken.sameStates rfl fun _ => rfl
      iterate 4 exact broken
      all_goals exact missed

/-- R20, R162: the locker that a CONFIRM opens was in HOLDING. -/
theorem State.ChainLaw.confirm (b : Byte) : (s.confirm b).1.ChainLaw := by
  unfold State.confirm
  split
  · split
    next n _ named =>
      exact State.ChainLaw.lineBlind.pnl _ _ (h.move (n := n) (by simp [named.2]) nofun)
    next => exact h
  · exact h

theorem State.ChainLaw.presentStaff (code : Code) (b : Byte) : (s.presentStaff code b).1.ChainLaw := by
  unfold State.presentStaff
  split
  · exact h
  split
  · exact h.sameStates rfl fun _ => rfl
  split
  · exact h
  split
  next locked => exact h.toClearing locked
  next => exact h

theorem State.ChainLaw.runMessage (m : PanelMsg) : (s.runMessage m).1.ChainLaw := by
  cases m with
  | present code => exact h.present code
  | confirm b => exact h.confirm b
  | abandon => exact h.sameStates rfl fun _ => rfl
  | presentStaff code b => exact h.presentStaff code b

theorem State.ChainLaw.takeMessage (m : PanelMsg) : (s.takeMessage m).ChainLaw :=
  State.ChainLaw.lineBlind.takeMessage h (fun _ m g => g.runMessage m) m

end panel

/-! ### The chain's law under the heat bus, the windows and the start-up -/

section blocks
variable {s : State} (h : s.ChainLaw)
include h

theorem State.ChainLaw.withHbp (x : Hbp) : (s.withHbp x).ChainLaw := h.sameStates rfl fun _ => rfl

theorem State.ChainLaw.withFsc (x : Fsc) : (s.withFsc x).ChainLaw := h.sameStates rfl fun _ => rfl

theorem State.ChainLaw.enterSlot (j : Fin 16) : (s.enterSlot j).ChainLaw :=
  h.sameStates rfl fun n => by rw [State.enterSlot_locker]

/-- R76 to R79: the fill writes duties and outputs. -/
theorem State.ChainLaw.shareAndFill (own : Demand) : ((s.share own).fillAndPack).ChainLaw :=
  h.sameStates (by simp) fun n => by rw [State.fillAndPack_locker]; rfl

/-- R70 steps 1 and 2: the snapshot writes calls, classes and requests. -/
theorem State.ChainLaw.setCalls : s.setCalls.ChainLaw := h.eachLocker fun n => State.callLocker_state s (s.locker n)

theorem State.ChainLaw.timedStart : s.timedStart.ChainLaw := by
  rw [State.timedStart_eq]
  refine State.ChainLaw.shareAndFill (h.sameStates (by simp [State.handed]) fun n => ?_) _
  rw [State.handed_locker, State.callLocker_state]

theorem State.ChainLaw.warnAsserted : s.warnAsserted.ChainLaw := by
  have started (u : State) (g : u.ChainLaw) : u.shedStart.ChainLaw := by
    have restarted : u.overtakeWindow.restartWindow.ChainLaw := g.sameStates rfl fun _ => rfl
    exact restarted.setCalls.shareAndFill _
  unfold State.warnAsserted
  split
  · exact started _ (h.withFsc _)
  iterate 2 exact h.withFsc _
  · exact h

theorem State.ChainLaw.warnReleased : s.warnReleased.ChainLaw := by
  unfold State.warnReleased
  split
  · exact h.withFsc _
  all_goals exact h

theorem State.ChainLaw.checkFrame : s.checkFrame.ChainLaw := by
  unfold State.checkFrame
  split <;> exact h.sameStates rfl fun _ => rfl

theorem State.ChainLaw.frameEnd : s.frameEnd.ChainLaw := by
  have line (x : Hbp) : (s.withHbp x).ChainLaw := h.withHbp x
  simp only [State.frameEnd]
  split
  · exact line _
  · exact line _
  · exact (line _).withHbp _
  · exact (line _).withHbp _
  split
  · split
    · exact (line _).withHbp _
    · exact ((line _).withHbp _).checkFrame
  · exact (line _).checkFrame

/-- R2, R3, R185: out of STARTING the part comes with an empty chain and no locker in LOADING. -/
theorem State.ChainLaw.readComplete (image : List Byte) (empty : s.bkc.entries = []) :
    (s.readComplete image).ChainLaw := by
  unfold State.readComplete
  split
  · exact h.sameStates rfl fun _ => rfl
  · refine h.same rfl fun n => iff_of_false ?_ (h.notLoading_of_nil empty n)
    simpa [State.endStarting] using Locker.setUp_notLoading _ _

end blocks

/-- R138, R183: after a reset the chain is empty and no locker is in LOADING. -/
theorem State.ChainLaw.ofReset (s : State) : s.resetPart.ChainLaw where
  bound := Nat.zero_le 8
  active := rfl
  remaining := rfl
  skipped := Nat.zero_le 8
  current n := iff_of_false (by simp [State.resetPart, State.locker, Locker.afterReset, Locker.reset]) nofun

/-! ### The chain's law under every command -/

section commands
variable {s t : State} (h : s.ChainLaw)
include h

theorem execSlotBoundary_keepsChainLaw (e : execSlotBoundary s = .next t) : t.ChainLaw := by
  unfold execSlotBoundary at e
  split at e
  · exact of_next (State.ChainLaw.lineBlind.overtaken _ _ h) e
  · split at e
    · split at e
      · exact of_next ((h.advance _).enterSlot _) e
      · exact of_next h e
    · exact of_next h e

theorem execErroredAttempt_keepsChainLaw (cause : AttemptError) (e : execErroredAttempt cause s = .next t) :
    t.ChainLaw := by
  unfold execErroredAttempt at e
  split at e
  · cases cause with
    | differs => exact of_ite_next (fun _ => h) (fun _ => h.withHbp _) e
    | framing => exact of_next (h.withHbp _) e
  · exact of_next h e

theorem execPanelFrameDropped_keepsChainLaw (e : execPanelFrameDropped s = .next t) : t.ChainLaw := by
  unfold execPanelFrameDropped at e
  split at e
  · exact of_next (State.ChainLaw.lineBlind.pnl _ _ h) e
  · exact of_next h e

theorem execFrameDiscarded_keepsChainLaw (e : execFrameDiscarded s = .next t) : t.ChainLaw := by
  unfold execFrameDiscarded at e
  split at e
  · exact of_next (State.ChainLaw.lineBlind.svl _ _ h) e
  · exact of_next h e

/-- R138: whatever the command, its meaning keeps the chain's law; in STARTING the chain is empty. -/
theorem State.ChainLaw.exec (c : Instr) (asleep : s.pvt.station = .starting → s.bkc.entries = [])
    (e : exec c s = .next t) : t.ChainLaw := by
  have blind := State.ChainLaw.lineBlind
  cases c with
  | reset => exact of_next (State.ChainLaw.ofReset s) e
  | readCompletion image trays =>
    exact of_ite_next (fun starting => (h.sampleTrays trays).readComplete _ (by simpa using asleep starting))
      (fun _ => h) e
  | scanEvent n sample => exact of_ite_next (fun _ => h.scan n sample) (fun _ => h) e
  | timedWindowStart =>
    exact of_ite_next (fun _ => blind.overtaken _ _ h) (fun _ => h.onExpiry _ _ fun _ g => g.timedStart) e
  | slotBoundary => exact execSlotBoundary_keepsChainLaw h e
  | feederWarnAssertion => exact of_ite_next (fun _ => (h.withFsc _).warnAsserted) (fun _ => h.withFsc _) e
  | feederWarnRelease => exact of_ite_next (fun _ => (h.withFsc _).warnReleased) (fun _ => h.withFsc _) e
  | releaseHoldExpiry => exact of_next (h.onExpiry _ _ fun _ g => g.withFsc _) e
  | doorOpenEvent n =>
    have opened : (s.setLocker n { s.locker n with doorShut := false }).ChainLaw := h.setLocker Iff.rfl
    exact of_ite_next (fun _ => opened.doorOpened) (fun _ => h) e
  | doorCloseEvent n tray =>
    have shut : (s.putLocker n ((s.locker n).shutWith tray)).ChainLaw := h.putLocker Iff.rfl
    exact of_ite_next (fun _ => h) (fun _ => shut.doorClosed) e
  | unlatchTimerExpiry n => exact of_next (h.onExpiry _ _ fun _ g => g.unlatchExpired n) e
  | ajarTimerExpiry n => exact of_next (h.onExpiry _ _ fun _ g => g.ajarExpired n) e
  | attemptStart | arbitrationLost | framingError => exact of_ite_next (fun _ => h.withHbp _) (fun _ => h) e
  | erroredAttempt cause => exact execErroredAttempt_keepsChainLaw h cause e
  | frameEnd => exact of_next h.frameEnd e
  | fallingEdge => exact of_next (h.withHbp _) e
  | present | confirm | abandon | presentStaff => exact of_next (h.takeMessage _) e
  | panelBadMessage f => exact of_next (blind.takePanelFault h f) e
  | panelFrameDropped => exact execPanelFrameDropped_keepsChainLaw h e
  | panelGapTimerExpiry =>
    exact of_ite_next (fun _ => blind.overtaken _ _ h) (fun _ => h.onExpiry _ _ fun _ g => blind.panelGapExpired g) e
  | panelResponseSent => exact of_next (blind.pnl _ _ h) e
  | claimTimerExpiry =>
    exact of_ite_next (fun _ => blind.overtaken _ _ h) (fun _ => h.onExpiry _ _ fun _ g => blind.pnl _ _ g) e
  | throttleTimerExpiry => exact of_next (h.onExpiry _ _ fun _ g => blind.pnl _ _ g) e
  | panelByteReceived b framingError =>
    exact of_next (blind.panelByte h (fun _ m g => g.runMessage m) b framingError) e
  | book | load | abortLoad | cancel | queryBank | fetch | release | hideLocker | staffOpen =>
    exact of_next (h.serve _) e
  | queryOrder _ trays | queryLocker _ trays | showLocker _ trays => exact of_next ((h.sampleTrays trays).serve _) e
  | badFrame f => exact of_next (blind.serveFault h f) e
  | frameDiscarded => exact execFrameDiscarded_keepsChainLaw h e
  | gapTimerExpiry =>
    exact of_ite_next (fun _ => blind.overtaken _ _ h) (fun _ => h.onExpiry _ _ fun _ g => blind.gapExpired g) e
  | responseSent => exact of_next (blind.svl _ _ h) e
  | serviceByteReceived b framingError trays =>
    exact of_next (blind.serviceByte (h.sampleTrays trays) (fun _ c g => g.runCommand c) b framingError) e

end commands

/-! ### The obligation -/

/-- R2, R138: a part in STARTING has an empty chain. -/
theorem State.StationLaw.entries_of_starting {s : State} (h : s.StationLaw) (starting : s.pvt.station = .starting) :
    s.bkc.entries = [] := by
  have asleep : s.running = false := by simp [State.running, starting, Station.running]
  rw [(h.dormant asleep).bkc]
  rfl

/-- Settles O56: a locker enters LOADING with the turn of its entry, given while no other locker is there, and leaves it
with that entry; the station law adds that the part leaves STARTING with an empty chain. -/
theorem everyStepKeepsChainLaw : Obligations.EveryStepKeepsChainLaw := by
  unfold Obligations.EveryStepKeepsChainLaw
  intro s t station h e
  unfold step at e
  split at e
  · exact of_next (h.advance 1) e
  next c rest _ =>
    have queued : (s.withPending rest).ChainLaw := h.sameStates rfl fun _ => rfl
    exact queued.exec c station.entries_of_starting e

end Sys2Proof.Machine

/-! PROOFS. BKC: the ready test, the checks of LOAD ref by ref, and the chain that an accepted LOAD starts (R45, R145,
R146). -/

namespace Sys2Proof.Machine

/-! ### The holder of a ref (R140) -/

theorem State.orderRef_of_holderOf {s : State} {ref : OrderRef} {n : LockerNo} (holder : s.holderOf ref = some n) :
    (s.locker n).orderRef = some ref := by
  simpa using List.find?_some holder

theorem State.orderRef_ne_of_holderOf {s : State} {ref : OrderRef} (unheld : s.holderOf ref = none) (n : LockerNo) :
    (s.locker n).orderRef ≠ some ref := by
  simpa using List.find?_eq_none.mp unheld n (allLockers_mem n)

/-! ### The ready test (R45) -/

theorem State.profileOf_of_stored {s : State} {l : Locker} {p : ProfileNo} {f : Profile} (named : l.profile = some p)
    (stored : s.slots[p].body = some f) : s.profileOf l = f := by
  simp only [State.profileOf, named, stored, Option.getD_some]

theorem State.ready_iff (s : State) (l : Locker) : s.ready l = true ↔
    (l.state = .booked ∨ l.state = .loading)
      ∧ ∃ v, l.reading = .valid v ∧ preheatSetpoint (s.profileOf l) ≤ v.val + 2 := by
  unfold State.ready
  cases state : l.state with
  | booked | loading => cases reading : l.reading <;> simp
  | out | free | holding | opened | lockout | clearing | filing => simp

/-! ### The checks of LOAD (R145) -/

section checks
variable {s : State} {force : Bool} {before : List OrderRef} {r : OrderRef}

theorem State.refFault_of_mem (again : r ∈ before) : s.refFault force before r = some .dupOrder := by
  simp [State.refFault, again]

theorem State.refFault_of_unheld (fresh : r ∉ before) (unheld : s.holderOf r = none) :
    s.refFault force before r = some .notFound := by
  simp [State.refFault, fresh, unheld]

theorem State.refFault_of_notBooked {n : LockerNo} (fresh : r ∉ before) (holder : s.holderOf r = some n)
    (notBooked : (s.locker n).state ≠ .booked) : s.refFault force before r = some .wrongState := by
  simp [State.refFault, fresh, holder, notBooked]

theorem State.refFault_of_notReady {n : LockerNo} (fresh : r ∉ before) (holder : s.holderOf r = some n)
    (booked : (s.locker n).state = .booked) (unforced : force = false) (notReady : s.ready (s.locker n) = false) :
    s.refFault force before r = some .notReady := by
  simp [State.refFault, fresh, holder, booked, unforced, notReady]

/-- A ref that passes every check: it comes for the first time, and its locker is in BOOKED and ready or forced. -/
theorem State.refFault_of_good (good : r ∉ before ∧ ∃ n, s.holderOf r = some n ∧ (s.locker n).state = .booked
    ∧ (force = true ∨ s.ready (s.locker n) = true)) : s.refFault force before r = none := by
  obtain ⟨fresh, n, holder, booked, ready⟩ := good
  simp [State.refFault, fresh, holder, booked, ready]

/-- Refs that pass are left behind; the first one that fails is answered. -/
theorem State.firstFault_append {earlier passed rest : List OrderRef}
    (pass : ∀ a x b, passed = a ++ x :: b → s.refFault force (earlier ++ a) x = none) :
    s.firstFault force earlier (passed ++ rest) = s.firstFault force (earlier ++ passed) rest := by
  induction passed generalizing earlier with
  | nil => simp
  | cons x passed ih =>
    have first : s.refFault force earlier x = none := by simpa using pass [] x passed rfl
    have later : ∀ a y b, passed = a ++ y :: b → s.refFault force (earlier ++ [x] ++ a) y = none :=
      fun a y b prefixed => by simpa using pass (x :: a) y b (by simp [prefixed])
    rw [List.cons_append, State.firstFault, first]
    simpa using ih later

/-- R145: a LOAD is judged by the first failing check of its first failing ref. -/
theorem State.firstFault_of_first {after : List OrderRef} {c : RespCode}
    (pass : ∀ a x b, before = a ++ x :: b → s.refFault force a x = none)
    (fails : s.refFault force before r = some c) : s.firstFault force [] (before ++ r :: after) = some (c, r) := by
  rw [State.firstFault_append pass, List.nil_append, State.firstFault, fails]

theorem State.firstFault_of_none {refs : List OrderRef}
    (pass : ∀ a x b, refs = a ++ x :: b → s.refFault force a x = none) : s.firstFault force [] refs = none := by
  simpa [State.firstFault] using State.firstFault_append (rest := []) pass

end checks

/-! ### LOAD does not see the service line -/

theorem State.firstFault_withSvl (s : State) (x : Svl) (force : Bool) (earlier refs : List OrderRef) :
    (s.withSvl x).firstFault force earlier refs = s.firstFault force earlier refs := by
  induction refs generalizing earlier with
  | nil => rfl
  | cons r rest ih =>
    have same : (s.withSvl x).refFault force earlier r = s.refFault force earlier r := rfl
    rw [State.firstFault, State.firstFault, same, ih]

theorem State.giveTurn_withSvl (s : State) (x : Svl) (es : List ChainEntry) :
    (s.withSvl x).giveTurn es = (s.giveTurn es).withSvl x := by
  induction es generalizing s with
  | nil => rfl
  | cons e rest ih =>
    rw [State.giveTurn, State.giveTurn, State.withSvl_locker]
    split
    · rfl
    · exact ih (s.withBkc { s.bkc with skipped := s.bkc.skipped + 1 })

theorem State.load_withSvl (s : State) (x : Svl) (force : Bool) (refs : List OrderRef) :
    (s.withSvl x).load force refs = ((s.load force refs).1.withSvl x, (s.load force refs).2) := by
  unfold State.load
  rw [State.firstFault_withSvl, State.withSvl_bkc]
  split
  · rfl
  split
  · rfl
  split
  · rfl
  · let accepted := s.withBkc { s.bkc with skipped := 0, force := force }
    exact congrArg (·, _) (State.giveTurn_withSvl accepted x (s.entriesFor refs))

theorem State.load_svl (s : State) (force : Bool) (refs : List OrderRef) : (s.load force refs).1.svl = s.svl := by
  unfold State.load
  split
  · rfl
  split
  · rfl
  split
  · rfl
  · simp

/-- R145: a LOAD that arrives with no command in progress is answered with what BKC decides. -/
theorem exec_load_of_idle {s u : State} {force : Bool} {refs : List OrderRef} {a : Answer} (running : s.running = true)
    (idle : s.svl.inProgress = none) (decided : s.load force refs = (u, a)) :
    exec (.load force refs) s = .next (u.answered 2 a.code a.fields) := by
  have line : u.svl = s.svl := by simpa [decided] using s.load_svl force refs
  refine congrArg _ (State.serve_of_idle (c := .load force refs) running idle ?_ line)
  rw [State.runCommand, State.load_withSvl, decided]

/-! ### What BKC decides (R145, R146) -/

section decisions
variable {s : State} {force : Bool} {refs : List OrderRef}

theorem State.load_of_active (active : s.bkc.active = true) : s.load force refs = (s, .plain .busy) := by
  simp [State.load, active]

theorem State.load_of_size (inactive : s.bkc.active = false) (size : refs.length = 0 ∨ 9 ≤ refs.length) :
    s.load force refs = (s, .plain .outOfRange) := by
  simp only [State.load, inactive, Bool.false_eq_true, if_false]
  exact if_pos size

theorem State.load_of_fault {c : RespCode} {r : OrderRef} (inactive : s.bkc.active = false)
    (least : 1 ≤ refs.length) (most : refs.length ≤ 8) (fault : s.firstFault force [] refs = some (c, r)) :
    s.load force refs = (s, ⟨c, split4 r⟩) := by
  have size : ¬ (refs.length = 0 ∨ 8 < refs.length) := by omega
  simp only [State.load, inactive, Bool.false_eq_true, if_false, size, fault]

theorem State.load_of_pass (inactive : s.bkc.active = false) (least : 1 ≤ refs.length) (most : refs.length ≤ 8)
    (pass : s.firstFault force [] refs = none) : s.load force refs =
      ((s.withBkc { s.bkc with skipped := 0, force := force }).giveTurn (s.entriesFor refs),
        ⟨.ok, [byte1 refs.length]⟩) := by
  have size : ¬ (refs.length = 0 ∨ 8 < refs.length) := by omega
  simp only [State.load, inactive, Bool.false_eq_true, if_false, size, pass]

end decisions

/-! ### The obligation -/

/-- Settles O43: LOAD decides by the chain, the count of refs and the first ref that fails, and what it decides is
answered; the holder of a ref is found among all lockers. -/
theorem loadChecksAndStartsTheChain : Obligations.LoadChecksAndStartsTheChain := by
  unfold Obligations.LoadChecksAndStartsTheChain
  intro force refs s running idle
  have answer {u : State} {a : Answer} (decided : s.load force refs = (u, a)) :=
    exec_load_of_idle running idle decided
  refine ⟨fun active => answer (State.load_of_active active),
    fun inactive size => answer (State.load_of_size inactive size), ?_, ?_,
    fun _ _ => State.orderRef_of_holderOf, fun _ => State.orderRef_ne_of_holderOf, ?_⟩
  · intro before r after inactive refsEq most good
    have pass : ∀ a x b, before = a ++ x :: b → s.refFault force a x = none := fun a x b prefixed =>
      State.refFault_of_good (good a x b prefixed)
    have fault {c : RespCode} (fails : s.refFault force before r = some c) :
        exec (.load force refs) s = .next (s.answered 2 c (split4 r)) :=
      answer (State.load_of_fault inactive (by simp [refsEq]; omega) most
        (refsEq ▸ State.firstFault_of_first pass fails))
    refine ⟨fun again => fault (State.refFault_of_mem again),
      fun fresh unheld => fault (State.refFault_of_unheld fresh unheld), fun n fresh holder => ⟨?_, ?_⟩⟩
    · exact fun notBooked => fault (State.refFault_of_notBooked fresh holder notBooked)
    · exact fun booked unforced notReady => fault (State.refFault_of_notReady fresh holder booked unforced notReady)
  · intro inactive least most good
    exact answer (State.load_of_pass inactive least most
      (State.firstFault_of_none fun a x b prefixed => State.refFault_of_good (good a x b prefixed)))
  · intro n p f named stored
    rw [State.ready_iff, State.profileOf_of_stored named stored, preheatSetpoint]

end Sys2Proof.Machine

/-! PROOFS. The two serial lines, for a property that does see the rest of the two blocks that serve them: what keeps it
through every byte, frame and gap of a line (R157, R158, R176 to R178). -/

namespace Sys2Proof.Machine

/-- A property of the state that sees neither the receivers and responses of the two serial lines nor the flags of
overtaken expiries. Unlike a `LineBlind` one it may see the other fields of SVL and PNL: the line rate, the claim, the
misses and the throttle. -/
structure ReceiptBlind (P : State → Prop) : Prop where
  svl       : ∀ {s : State} {receiver expected gapTimer kept inProgress discarded}, P s → P (s.withSvl { s.svl with
    receiver := receiver, expected := expected, gapTimer := gapTimer, kept := kept, inProgress := inProgress
    discarded := discarded })
  pnl       : ∀ {s : State} {receiver expected gapTimer kept sending}, P s → P (s.withPnl { s.pnl with
    receiver := receiver, expected := expected, gapTimer := gapTimer, kept := kept, sending := sending })
  overtaken : ∀ {s : State} {x}, P s → P (s.withOvertaken x)

section service
variable {P : State → Prop} (blind : ReceiptBlind P) {s : State} (h : P s)
include blind h

theorem ReceiptBlind.serviceArrival {judge : State → State} (judged : ∀ s, P s → P (judge s)) :
    P (s.serviceArrival judge) := by
  cases busy : s.svl.inProgress with
  | none => exact s.serviceArrival_idle judge busy ▸ judged _ (blind.svl h)
  | some _ => exact s.serviceArrival_busy judge busy ▸ blind.svl h

theorem ReceiptBlind.serveFault (f : FrameFault) : P (s.serveFault f) :=
  blind.serviceArrival h fun _ g => blind.svl g

theorem ReceiptBlind.frameDiscarded {t : State} (e : execFrameDiscarded s = .next t) : P t := by
  unfold execFrameDiscarded at e
  split at e
  · exact of_next (blind.svl h) e
  · exact of_next h e

theorem ReceiptBlind.gapExpired : P s.gapExpired := by
  unfold State.gapExpired
  split
  · exact blind.svl h
  iterate 2 exact blind.serveFault h _

variable (commands : ∀ s c, P s → P (s.runCommand c).1)
include commands

theorem ReceiptBlind.serve (c : ServiceCmd) : P (s.serve c) :=
  blind.serviceArrival h fun _ g => blind.svl (State.dispatch_keeps g commands c)

theorem ReceiptBlind.serveBytes (kept : List Byte) : P (s.serveBytes kept) := by
  unfold State.serveBytes
  split
  · exact blind.serve h commands _
  · exact blind.serveFault h _

theorem ReceiptBlind.serviceByte (b : Byte) (framingError : Bool) : P (s.serviceByte b framingError) := by
  have restarted : P s.overtakeServiceGap := blind.overtaken h
  simp only [State.serviceByte]
  split
  · split
    · exact blind.svl h
    · exact h
  · split
    · exact blind.serveFault h _
    · exact blind.svl restarted
  · split
    · exact blind.serveFault h _
    · split
      · exact blind.serveBytes h commands _
      · exact blind.svl restarted

end service

section panel
variable {P : State → Prop} (blind : ReceiptBlind P) {s : State} (h : P s)
include blind h

theorem ReceiptBlind.panelArrival {take : State → State} (taken : ∀ s, P s → P (take s)) :
    P (s.panelArrival take) := by
  cases busy : s.pnl.sending with
  | none => exact s.panelArrival_idle take busy ▸ taken _ (blind.pnl h)
  | some _ => exact s.panelArrival_busy take busy ▸ blind.pnl h

theorem ReceiptBlind.takePanelFault (f : PanelFault) : P (s.takePanelFault f) :=
  blind.panelArrival h fun _ g => blind.pnl g

theorem ReceiptBlind.panelFrameDropped {t : State} (e : execPanelFrameDropped s = .next t) : P t := by
  unfold execPanelFrameDropped at e
  split at e
  · exact of_next (blind.pnl h) e
  · exact of_next h e

theorem ReceiptBlind.panelGapExpired : P s.panelGapExpired := by
  unfold State.panelGapExpired
  split
  · exact blind.pnl h
  iterate 2 exact blind.takePanelFault h _

variable (messages : ∀ s m, P s → P (s.runMessage m).1)
include messages

theorem ReceiptBlind.takeMessage (m : PanelMsg) : P (s.takeMessage m) := by
  refine blind.panelArrival h fun u g => ?_
  unfold State.answerMessage
  split
  · exact blind.pnl (messages _ m g)
  · exact blind.pnl g

theorem ReceiptBlind.takePanelBytes (kept : List Byte) : P (s.takePanelBytes kept) := by
  unfold State.takePanelBytes
  split
  · exact blind.takeMessage h messages _
  · exact blind.takePanelFault h _

theorem ReceiptBlind.panelByte (b : Byte) (framingError : Bool) : P (s.panelByte b framingError) := by
  have restarted : P s.overtakePanelGap := blind.overtaken h
  simp only [State.panelByte]
  split
  · split
    · exact blind.pnl h
    · exact h
  · split
    · exact blind.takePanelFault h _
    · exact blind.pnl restarted
  · split
    · exact blind.takePanelFault h _
    · split
      · exact blind.takePanelBytes h messages _
      · exact blind.pnl restarted

end panel

end Sys2Proof.Machine

/-! PROOFS. PNL: the claim's law, which every step keeps (R24, R161, R163). -/

namespace Sys2Proof.Machine

/-! ### What the claim's law rests on -/

/-- Only a change of the claim or of its timer, or a locker that leaves HOLDING, can break the law. -/
theorem State.ClaimLaw.frame {s t : State} (h : s.ClaimLaw) (claim : t.pnl.claim = s.pnl.claim)
    (timer : t.pnl.claimTimer.isSome = s.pnl.claimTimer.isSome)
    (stays : ∀ n, (s.locker n).state = .holding → (t.locker n).state = .holding) : t.ClaimLaw where
  holding n named := stays n (h.holding n (claim ▸ named))
  timer := by rw [claim, timer]; exact h.timer

/-- With PNL as it was, only a locker that leaves HOLDING can break the law. -/
theorem State.ClaimLaw.same {s t : State} (h : s.ClaimLaw) (pnl : t.pnl = s.pnl)
    (stays : ∀ n, (s.locker n).state = .holding → (t.locker n).state = .holding) : t.ClaimLaw :=
  h.frame (by rw [pnl]) (by rw [pnl]) stays

/-- R161: with no claim and an idle claim timer there is nothing to keep. -/
theorem State.ClaimLaw.ofNone {s : State} (claim : s.pnl.claim = none) (timer : s.pnl.claimTimer = none) :
    s.ClaimLaw where
  holding n named := by simp [claim] at named
  timer := by simp [claim, timer]

/-- R163: where a claim has ended, no locker matters. -/
theorem State.ClaimLaw.ofEndClaim (s : State) : s.endClaim.ClaimLaw := State.ClaimLaw.ofNone rfl rfl

/-- R161: a claim that is set names a locker in HOLDING, and its timer starts. -/
theorem State.ClaimLaw.ofOffer {s : State} {n : LockerNo} (holding : (s.locker n).state = .holding) :
    (s.withPnl (s.pnl.offer n)).ClaimLaw where
  holding m named := Option.some.inj named ▸ holding
  timer := by simp [Pnl.offer]

/-! ### The claim's law under the shared operations -/

section shared
variable {s : State} (h : s.ClaimLaw)
include h

theorem State.ClaimLaw.setLocker {n : LockerNo} {l : Locker}
    (stays : (s.locker n).state = .holding → l.state = .holding) : (s.setLocker n l).ClaimLaw := by
  refine h.same rfl fun m holding => ?_
  by_cases same : m = n
  · subst same
    rw [State.setLocker_locker_same, stays holding]
  · rwa [State.setLocker_locker_other s l same]

theorem State.ClaimLaw.putLocker {n : LockerNo} {l : Locker}
    (stays : (s.locker n).state = .holding → l.state = .holding) : (s.putLocker n l).ClaimLaw :=
  h.setLocker stays

/-- A transition out of another state than HOLDING. -/
theorem State.ClaimLaw.move {n : LockerNo} {l : Locker} (before : (s.locker n).state ≠ .holding) :
    (s.putLocker n l).ClaimLaw :=
  h.putLocker fun holding => absurd holding before

/-- R24: a transition of a locker, whatever state it leaves, of which PNL hears. -/
theorem State.ClaimLaw.leave (n : LockerNo) (l : Locker) :
    ((s.putLocker n l).leftHolding n (s.locker n).state).ClaimLaw := by
  unfold State.leftHolding
  split
  · exact State.ClaimLaw.ofEndClaim _
  next unnamed =>
    refine ⟨fun m named => ?_, h.timer⟩
    have holding := h.holding m named
    have other : m ≠ n := fun same => unnamed ⟨same ▸ holding, same ▸ named⟩
    rwa [State.putLocker_locker_other s l other]

theorem State.ClaimLaw.eachLocker {f : LockerNo → Locker → Locker}
    (states : ∀ n, (f n (s.locker n)).state = (s.locker n).state) : (s.eachLocker f).ClaimLaw :=
  h.same rfl fun n holding => by rw [State.eachLocker_locker, states, holding]

theorem State.ClaimLaw.sampleTrays (trays : Lines) : (s.sampleTrays trays).ClaimLaw := h.eachLocker fun _ => rfl

/-- A claim timer that runs goes on running, and an idle one stays idle. -/
theorem State.ClaimLaw.advance (d : Nat) : (s.advance d).ClaimLaw := by
  by_cases now : d = 0
  · subst now
    rwa [State.advance_zero]
  · obtain ⟨-, -, pnl, -⟩ := s.advance_blocks now
    refine h.frame (by rw [pnl]) (by rw [pnl, Timer.tick_isSome]) fun n holding => ?_
    rw [State.advance_locker s now]
    exact holding

theorem State.ClaimLaw.onExpiry (timer : Timer) (limit : Nat) {expire : State → State}
    (expired : ∀ s, s.ClaimLaw → (expire s).ClaimLaw) : (s.onExpiry timer limit expire).ClaimLaw :=
  s.onExpiry_keeps timer limit expire h (fun d _ => h.advance d) expired

theorem State.ClaimLaw.fileOrQueue (n : LockerNo) (r : OutcomeRecord) : (s.fileOrQueue n r).ClaimLaw := by
  unfold State.fileOrQueue
  split
  · exact (h.putLocker (l := (s.locker n).clearBooking) id).same rfl fun _ => id
  · exact (h.putLocker (l := { s.locker n with recordPending := true }) id).same rfl fun _ => id

/-- R24: an end in a lockout ends a claim that names its locker. -/
theorem State.ClaimLaw.endInLockout (n : LockerNo) (c : Cause) (e : BookingEnd) : (s.endInLockout n c e).ClaimLaw :=
  (h.leave n _).fileOrQueue n _

theorem State.ClaimLaw.endCollected {n : LockerNo} (before : (s.locker n).state ≠ .holding) :
    (s.endCollected n).ClaimLaw :=
  State.ClaimLaw.fileOrQueue (h.move before) n _

/-- R31: the locker of a filed record leaves FILING or stays in its state. -/
theorem State.ClaimLaw.fileFromQueue : s.fileFromQueue.ClaimLaw := by
  unfold State.fileFromQueue
  split
  · exact h
  next e rest _ =>
    refine State.ClaimLaw.same (h.putLocker (n := e.locker) fun holding => ?_) rfl fun _ => id
    split
    next filing =>
      have before : (s.locker e.locker).state = .filing := filing
      simp [before] at holding
    next => exact holding

/-- R147: a locker that enters LOADING was BOOKED. -/
theorem State.ClaimLaw.giveTurn (es : List ChainEntry) : (s.giveTurn es).ClaimLaw := by
  induction es generalizing s with
  | nil => exact h.same rfl fun _ => id
  | cons e rest ih =>
    by_cases takes : (s.locker e.locker).state = .booked ∧ (s.locker e.locker).orderRef = some e.ref
    · rw [State.giveTurn_take s e rest takes]
      have entered : (s.enterLoading e.locker).ClaimLaw := h.move (by simp [takes.1])
      exact entered.same rfl fun _ => id
    · rw [State.giveTurn_skip s e rest takes]
      exact ih (h.same rfl fun _ => id)

theorem State.ClaimLaw.withBkc (x : Bkc) : (s.withBkc x).ClaimLaw := h.same rfl fun _ => id

theorem State.ClaimLaw.loadingExit (x : LoadingExit) : (s.loadingExit x).ClaimLaw :=
  State.ClaimLaw.giveTurn (h.withBkc _) _

theorem State.ClaimLaw.backToBooked {n : LockerNo} (before : (s.locker n).state ≠ .holding) :
    (s.backToBooked n).ClaimLaw :=
  h.move before

theorem State.ClaimLaw.toClearing {n : LockerNo} (locked : (s.locker n).state = .lockout) :
    (s.toClearing n).ClaimLaw :=
  h.move (by simp [locked])

end shared

/-- The law sees the claim and its timer alone of the two lines' blocks. -/
theorem State.ClaimLaw.receiptBlind : ReceiptBlind State.ClaimLaw where
  svl h := h.same rfl fun _ => id
  pnl h := h.frame rfl rfl fun _ => id
  overtaken h := h.same rfl fun _ => id

/-! ### The claim's law under the events of the lockers -/

section lockers
variable {s : State} (h : s.ClaimLaw) {n : LockerNo}
include h

theorem State.ClaimLaw.closeLoading (before : (s.locker n).state ≠ .holding) : (s.closeLoading n).ClaimLaw := by
  unfold State.closeLoading
  split
  · exact State.ClaimLaw.loadingExit (h.move before) _
  · exact (h.backToBooked before).loadingExit _

theorem State.ClaimLaw.reshut : (s.reshut n).ClaimLaw := by
  unfold State.reshut
  split
  · exact h.putLocker fun _ => rfl
  · exact h.endInLockout n _ _

theorem State.ClaimLaw.closeOpened (before : (s.locker n).state ≠ .holding) : (s.closeOpened n).ClaimLaw := by
  unfold State.closeOpened
  split
  · exact h.reshut
  · exact h.endCollected before

theorem State.ClaimLaw.backToLockout (before : (s.locker n).state ≠ .holding) : (s.backToLockout n).ClaimLaw :=
  h.move before

theorem State.ClaimLaw.closeClearing (before : (s.locker n).state ≠ .holding) : (s.closeClearing n).ClaimLaw := by
  simp only [State.closeClearing]
  split
  · exact h.backToLockout before
  · split <;> exact h.move before

/-- R13: the close after a forced opening leaves a locker in HOLDING as it is. -/
theorem State.ClaimLaw.closeForced : (s.closeForced n).ClaimLaw := by
  unfold State.closeForced
  cases state : (s.locker n).state with
  | free | filing => simpa only [state] using h.move (by simp [state])
  | booked =>
    simp only [state]
    split
    · exact h.endInLockout n _ _
    · exact h.putLocker id
  | lockout | out | loading | holding | opened | clearing => simpa only [state] using h.putLocker id

/-- R12: the opening that takes a locker out of HOLDING ends a booking. -/
theorem State.ClaimLaw.doorOpened : (s.doorOpened n).ClaimLaw := by
  have flagged : (s.putLocker n { s.locker n with tamper := true }).ClaimLaw := h.putLocker id
  unfold State.doorOpened
  cases state : (s.locker n).state with
  | out => simpa only [state] using h
  | free | lockout | filing => simpa only [state] using flagged
  | booked => simpa only [state] using h.move (by simp [state])
  | holding => simpa only [state] using flagged.endInLockout n _ _
  | loading | opened | clearing => simpa only [state] using h.move (by simp [state])

theorem State.ClaimLaw.doorClosed : (s.doorClosed n).ClaimLaw := by
  simp only [State.doorClosed]
  split
  · refine State.ClaimLaw.closeForced ?_
    exact h.setLocker id
  · cases state : (s.locker n).state with
    | loading => exact h.closeLoading (by simp [state])
    | opened => exact h.closeOpened (by simp [state])
    | clearing => exact h.closeClearing (by simp [state])
    | out | free | booked | holding | lockout | filing => exact h

/-- R9: the unlatch timer relatches a locker that is not in HOLDING. -/
theorem State.ClaimLaw.unlatchExpired (n : LockerNo) : (s.unlatchExpired n).ClaimLaw := by
  have idle : (s.setLocker n { s.locker n with unlatchTimer := none }).ClaimLaw := h.setLocker id
  unfold State.unlatchExpired
  generalize s.setLocker n { s.locker n with unlatchTimer := none } = u at idle
  cases state : (u.locker n).state with
  | loading => simpa only [state] using (idle.backToBooked (by simp [state])).loadingExit _
  | opened => simpa only [state] using idle.reshut
  | clearing => simpa only [state] using idle.backToLockout (by simp [state])
  | out | free | booked | holding | lockout | filing => simpa only [state] using idle

theorem State.ClaimLaw.ajarExpired (n : LockerNo) : (s.ajarExpired n).ClaimLaw := h.putLocker id

theorem State.ClaimLaw.reportReading : (s.reportReading n).ClaimLaw := by
  unfold State.reportReading
  split
  · exact h
  · exact h.setLocker id

theorem State.ClaimLaw.raise (c : ScanCause) : (s.raise n c).ClaimLaw := by
  simp only [State.raise]
  split
  · exact h.endInLockout n _ _
  · split
    · exact h.setLocker id
    · exact h
  all_goals exact h

theorem State.ClaimLaw.superviseScan : (s.superviseScan n).ClaimLaw := by
  have supervised : (s.setLocker n
      ((s.locker n).supervise (floorOf (s.profileOf (s.locker n))) s.cfg.overtemp)).ClaimLaw :=
    h.setLocker (by simp)
  simp only [State.superviseScan]
  split
  · exact supervised.raise _
  · exact supervised

theorem State.ClaimLaw.scan (n : LockerNo) (x : Reading) : (s.scan n x).ClaimLaw := by
  have sampled : (s.setLocker n ((s.locker n).takeSample x)).ClaimLaw := h.setLocker id
  simp only [State.scan]
  split
  · exact sampled.reportReading.superviseScan
  · exact sampled.superviseScan
  · exact sampled.reportReading
  all_goals exact sampled

end lockers

/-! ### The claim's law under the commands of the service line -/

section service
variable {s : State} (h : s.ClaimLaw)
include h

theorem State.ClaimLaw.book (ref : OrderRef) (code : Code) (profile : Byte) (preferred : Option Byte) :
    (s.book ref code profile preferred).1.ClaimLaw := by
  unfold State.book
  iterate 4
    split
    exact h
  split
  next n chosen => exact h.move (by simp [State.free_of_chooseLocker chosen])
  next => exact h

theorem State.ClaimLaw.load (force : Bool) (refs : List OrderRef) : (s.load force refs).1.ClaimLaw := by
  unfold State.load
  iterate 2
    split
    exact h
  split
  · exact h
  · exact (h.withBkc _).giveTurn _

theorem State.ClaimLaw.relatch (n : LockerNo) : (s.relatch n).ClaimLaw := by
  unfold State.relatch
  split
  next loading => exact (h.backToBooked (by simp [loading.1])).loadingExit _
  next => exact h

theorem State.ClaimLaw.abortLoad : s.abortLoad.1.ClaimLaw := by
  unfold State.abortLoad
  split
  · exact h
  · exact (h.withBkc _).relatch _

/-- R18, R24: a CANCEL in HOLDING ends a booking. -/
theorem State.ClaimLaw.cancel (ref : OrderRef) : (s.cancel ref).1.ClaimLaw := by
  unfold State.cancel
  split
  · exact h
  next n _ =>
    cases state : (s.locker n).state with
    | booked =>
      have freed : (s.freeBooked n).ClaimLaw := h.move (by simp [state])
      exact freed.same rfl fun _ => id
    | holding => exact h.endInLockout n _ _
    | loading | opened | lockout | clearing | filing | out | free => exact h

theorem State.ClaimLaw.release (ref : OrderRef) : (s.release ref).1.ClaimLaw := by
  unfold State.release
  split
  · exact State.ClaimLaw.fileFromQueue (h.same rfl fun _ => id)
  · exact h

theorem State.ClaimLaw.hide (b : Byte) : (s.hide b).1.ClaimLaw := by
  unfold State.hide
  split
  · exact h
  · dsimp only
    iterate 2
      split
      exact h
    split
    · exact h
    next free =>
      split
      · exact h
      · exact h.move (by simp [Decidable.of_not_not free])

theorem State.ClaimLaw.showCmd (b : Byte) : (s.showCmd b).1.ClaimLaw := by
  unfold State.showCmd
  split
  · exact h
  · dsimp only
    split
    · exact h
    split
    · exact h
    next hidden =>
      have out := Decidable.of_not_not (not_or.mp hidden).1
      iterate 2
        split
        exact h
      exact h.move (by simp [out])

theorem State.ClaimLaw.staffOpen (b : Byte) : (s.staffOpen b).1.ClaimLaw := by
  unfold State.staffOpen
  split
  · exact h
  · split
    next locked => exact h.toClearing locked
    next => exact h

theorem State.ClaimLaw.runCommand (c : ServiceCmd) : (s.runCommand c).1.ClaimLaw := by
  cases c with
  | book ref code profile preferred => exact h.book ref code profile preferred
  | load force refs => exact h.load force refs
  | abortLoad => exact h.abortLoad
  | cancel ref => exact h.cancel ref
  | queryOrder | queryLocker | queryBank | fetch => exact h
  | release ref => exact h.release ref
  | hideLocker b => exact h.hide b
  | showLocker b => exact h.showCmd b
  | staffOpen b => exact h.staffOpen b

theorem State.ClaimLaw.serve (c : ServiceCmd) : (s.serve c).ClaimLaw :=
  State.ClaimLaw.receiptBlind.serve h (fun _ c g => g.runCommand c) c

end service

/-! ### The claim's law under the messages of the panel -/

section panel
variable {s : State} (h : s.ClaimLaw)

theorem State.ClaimLaw.ofBreakClaim (s : State) : s.breakClaim.ClaimLaw := State.ClaimLaw.ofEndClaim _

include h

/-- R166: a miss touches neither the claim nor its timer. -/
theorem State.ClaimLaw.noMatch : s.noMatch.1.ClaimLaw := by
  refine h.frame ?_ ?_ fun _ => id
  all_goals
    simp only [State.noMatch, State.withPnl_pnl, Pnl.miss]
    split <;> rfl

omit h in
/-- R161: every PRESENT breaks the claim, and the one it may then set is that of a locker in HOLDING. -/
theorem State.ClaimLaw.present (s : State) (code : Code) : (s.present code).1.ClaimLaw := by
  have broken := State.ClaimLaw.ofBreakClaim s
  unfold State.present
  split
  · exact broken
  · unfold State.lookUp
    split
    · exact broken.noMatch
    · split
      next holding => exact State.ClaimLaw.ofOffer holding
      iterate 4 exact broken
      all_goals exact broken.noMatch

/-- R162: the CONFIRM that takes a locker out of HOLDING consumes the claim. -/
theorem State.ClaimLaw.confirm (b : Byte) : (s.confirm b).1.ClaimLaw := by
  unfold State.confirm
  split
  · split
    · exact State.ClaimLaw.ofEndClaim _
    · exact h
  · exact h

theorem State.ClaimLaw.presentStaff (code : Code) (b : Byte) : (s.presentStaff code b).1.ClaimLaw := by
  unfold State.presentStaff
  split
  · exact h
  split
  · exact h.noMatch
  split
  · exact h
  split
  next locked => exact h.toClearing locked
  next => exact h

theorem State.ClaimLaw.runMessage (m : PanelMsg) : (s.runMessage m).1.ClaimLaw := by
  cases m with
  | present code => exact State.ClaimLaw.present s code
  | confirm b => exact h.confirm b
  | abandon => exact State.ClaimLaw.ofEndClaim s
  | presentStaff code b => exact h.presentStaff code b

theorem State.ClaimLaw.takeMessage (m : PanelMsg) : (s.takeMessage m).ClaimLaw :=
  State.ClaimLaw.receiptBlind.takeMessage h (fun _ m g => g.runMessage m) m

end panel

/-! ### The claim's law under the heat bus, the windows and the start-up -/

@[simp] theorem State.checkFrame_locker (s : State) (n : LockerNo) : s.checkFrame.locker n = s.locker n := by
  unfold State.checkFrame
  split <;> rfl

@[simp] theorem State.frameEnd_locker (s : State) (n : LockerNo) : s.frameEnd.locker n = s.locker n := by
  simp only [State.frameEnd]
  split
  iterate 4 rfl
  split
  · split
    · rfl
    · simp
  · simp

section blocks
variable {s : State} (h : s.ClaimLaw)
include h

theorem State.ClaimLaw.withHbp (x : Hbp) : (s.withHbp x).ClaimLaw := h.same rfl fun _ => id

theorem State.ClaimLaw.withFsc (x : Fsc) : (s.withFsc x).ClaimLaw := h.same rfl fun _ => id

theorem State.ClaimLaw.withSvl (x : Svl) : (s.withSvl x).ClaimLaw := h.same rfl fun _ => id

theorem State.ClaimLaw.enterSlot (j : Fin 16) : (s.enterSlot j).ClaimLaw :=
  h.same (by simp) fun n holding => by rwa [State.enterSlot_locker]

/-- R76 to R79: the fill writes duties and outputs. -/
theorem State.ClaimLaw.shareAndFill (own : Demand) : ((s.share own).fillAndPack).ClaimLaw :=
  h.same (by simp) fun n holding => by rw [State.fillAndPack_locker]; exact holding

/-- R70 steps 1 and 2: the snapshot writes calls, classes and requests. -/
theorem State.ClaimLaw.setCalls : s.setCalls.ClaimLaw := h.eachLocker fun n => State.callLocker_state s (s.locker n)

theorem State.ClaimLaw.timedStart : s.timedStart.ClaimLaw := by
  rw [State.timedStart_eq]
  refine State.ClaimLaw.shareAndFill (h.same (by simp [State.handed]) fun n holding => ?_) _
  rw [State.handed_locker, State.callLocker_state, holding]

theorem State.ClaimLaw.warnAsserted : s.warnAsserted.ClaimLaw := by
  have started (u : State) (g : u.ClaimLaw) : u.shedStart.ClaimLaw := by
    have restarted : u.overtakeWindow.restartWindow.ClaimLaw := g.same rfl fun _ => id
    exact restarted.setCalls.shareAndFill _
  unfold State.warnAsserted
  split
  · exact started _ (h.withFsc _)
  iterate 2 exact h.withFsc _
  · exact h

/-- R167: the end of the throttle leaves the claim as it is. -/
theorem State.ClaimLaw.endThrottle : s.endThrottle.ClaimLaw := h.frame rfl rfl fun _ => id

theorem State.ClaimLaw.warnReleased : s.warnReleased.ClaimLaw := by
  unfold State.warnReleased
  split
  · exact h.withFsc _
  all_goals exact h

/-- R98 to R100: a frame end concerns HBP and PVT. -/
theorem State.ClaimLaw.frameEnd : s.frameEnd.ClaimLaw :=
  h.same (by simp) fun n holding => by rwa [State.frameEnd_locker]

omit h in
/-- R2, R163: a part that leaves STARTING has no claim. -/
theorem State.ClaimLaw.readComplete (image : List Byte) (claim : s.pnl.claim = none)
    (timer : s.pnl.claimTimer = none) : (s.readComplete image).ClaimLaw := by
  unfold State.readComplete
  split <;> exact State.ClaimLaw.ofNone claim timer

end blocks

/-! ### The claim's law under every command -/

section commands
variable {s t : State} (h : s.ClaimLaw)
include h

theorem State.ClaimLaw.slotBoundary (e : execSlotBoundary s = .next t) : t.ClaimLaw := by
  unfold execSlotBoundary at e
  split at e
  · exact of_next (State.ClaimLaw.receiptBlind.overtaken h) e
  · split at e
    · split at e
      · exact of_next ((h.advance _).enterSlot _) e
      · exact of_next h e
    · exact of_next h e

theorem State.ClaimLaw.erroredAttempt (cause : AttemptError) (e : execErroredAttempt cause s = .next t) :
    t.ClaimLaw := by
  unfold execErroredAttempt at e
  split at e
  · cases cause with
    | differs => exact of_ite_next (fun _ => h) (fun _ => h.withHbp _) e
    | framing => exact of_next (h.withHbp _) e
  · exact of_next h e

/-- R161: whatever the command, its meaning keeps the claim's law; in STARTING there is no claim. -/
theorem State.ClaimLaw.exec (c : Instr)
    (asleep : s.pvt.station = .starting → s.pnl.claim = none ∧ s.pnl.claimTimer = none)
    (e : exec c s = .next t) : t.ClaimLaw := by
  have blind := State.ClaimLaw.receiptBlind
  cases c with
  | reset => exact of_next (State.ClaimLaw.ofNone (s := s.resetPart) rfl rfl) e
  | readCompletion image trays =>
    refine of_ite_next (fun starting => ?_) (fun _ => h) e
    obtain ⟨claim, timer⟩ := asleep starting
    exact State.ClaimLaw.readComplete _ (by simpa using claim) (by simpa using timer)
  | scanEvent n sample => exact of_ite_next (fun _ => h.scan n sample) (fun _ => h) e
  | timedWindowStart =>
    exact of_ite_next (fun _ => blind.overtaken h) (fun _ => h.onExpiry _ _ fun _ g => g.timedStart) e
  | slotBoundary => exact h.slotBoundary e
  | feederWarnAssertion => exact of_ite_next (fun _ => (h.withFsc _).warnAsserted) (fun _ => h.withFsc _) e
  | feederWarnRelease => exact of_ite_next (fun _ => (h.withFsc _).warnReleased) (fun _ => h.withFsc _) e
  | releaseHoldExpiry => exact of_next (h.onExpiry _ _ fun _ g => g.withFsc _) e
  | doorOpenEvent n =>
    have opened : (s.setLocker n { s.locker n with doorShut := false }).ClaimLaw := h.setLocker id
    exact of_ite_next (fun _ => opened.doorOpened) (fun _ => h) e
  | doorCloseEvent n tray =>
    have shut : (s.putLocker n ((s.locker n).shutWith tray)).ClaimLaw := h.putLocker id
    exact of_ite_next (fun _ => h) (fun _ => shut.doorClosed) e
  | unlatchTimerExpiry n => exact of_next (h.onExpiry _ _ fun _ g => g.unlatchExpired n) e
  | ajarTimerExpiry n => exact of_next (h.onExpiry _ _ fun _ g => g.ajarExpired n) e
  | attemptStart | arbitrationLost | framingError => exact of_ite_next (fun _ => h.withHbp _) (fun _ => h) e
  | erroredAttempt cause => exact h.erroredAttempt cause e
  | frameEnd => exact of_next h.frameEnd e
  | fallingEdge => exact of_next (h.withHbp _) e
  | present | confirm | abandon | presentStaff => exact of_next (h.takeMessage _) e
  | panelBadMessage f => exact of_next (blind.takePanelFault h f) e
  | panelFrameDropped => exact blind.panelFrameDropped h e
  | panelGapTimerExpiry =>
    exact of_ite_next (fun _ => blind.overtaken h) (fun _ => h.onExpiry _ _ fun _ g => blind.panelGapExpired g) e
  | panelResponseSent => exact of_next (blind.pnl h) e
  | claimTimerExpiry =>
    exact of_ite_next (fun _ => blind.overtaken h)
      (fun _ => h.onExpiry _ _ fun _ _ => State.ClaimLaw.ofEndClaim _) e
  | throttleTimerExpiry => exact of_next (h.onExpiry _ _ fun _ g => g.endThrottle) e
  | panelByteReceived b framingError =>
    exact of_next (blind.panelByte h (fun _ m g => g.runMessage m) b framingError) e
  | book | load | abortLoad | cancel | queryBank | fetch | release | hideLocker | staffOpen =>
    exact of_next (h.serve _) e
  | queryOrder _ trays | queryLocker _ trays | showLocker _ trays => exact of_next ((h.sampleTrays trays).serve _) e
  | badFrame f => exact of_next (blind.serveFault h f) e
  | frameDiscarded => exact blind.frameDiscarded h e
  | gapTimerExpiry =>
    exact of_ite_next (fun _ => blind.overtaken h) (fun _ => h.onExpiry _ _ fun _ g => blind.gapExpired g) e
  | responseSent => exact of_next (h.withSvl _) e
  | serviceByteReceived b framingError trays =>
    exact of_next (blind.serviceByte (h.sampleTrays trays) (fun _ c g => g.runCommand c) b framingError) e

end commands

/-! ### The obligation -/

/-- R2, R159: a part in STARTING has no claim. -/
theorem State.StationLaw.claim_of_starting {s : State} (h : s.StationLaw) (starting : s.pvt.station = .starting) :
    s.pnl.claim = none ∧ s.pnl.claimTimer = none := by
  have asleep : s.running = false := by simp [State.running, starting, Station.running]
  exact ⟨(h.dormant asleep).claim, (h.dormant asleep).claimT⟩

/-- Settles O55: a claim is set for a locker in HOLDING and ends with the report that the locker leaves HOLDING (R24);
the station law adds that the part leaves STARTING without a claim. -/
theorem everyStepKeepsClaimLaw : Obligations.EveryStepKeepsClaimLaw := by
  unfold Obligations.EveryStepKeepsClaimLaw
  intro s t station h e
  unfold step at e
  split at e
  · exact of_next (h.advance 1) e
  next c rest _ =>
    have queued : (s.withPending rest).ClaimLaw := h.same rfl fun _ => id
    exact queued.exec c station.claim_of_starting e

end Sys2Proof.Machine

/-! PROOFS. PNL: what a message that arrives with no response being sent is answered (R157, R158), and the answers to
PRESENT, CONFIRM, ABANDON and PRESENT-STAFF (R160 to R167). -/

namespace Sys2Proof.Machine

/-! ### The rows of the panel -/

theorem exec_panelRow (m : PanelMsg) (s : State) : exec (panelRow m) s = .next (s.takeMessage m) := by
  cases m <;> rfl

theorem exec_panelBadMessage (f : PanelFault) (s : State) :
    exec (.panelBadMessage f) s = .next (s.takePanelFault f) := rfl

/-! ### What a message decides does not depend on the receiver -/

theorem Pnl.miss_toHunting (p : Pnl) : p.toHunting.miss = p.miss.toHunting := by
  have count : p.toHunting.missCount = p.missCount := rfl
  simp only [Pnl.miss, count]
  split <;> rfl

theorem State.noMatch_panelDropped (s : State) :
    s.panelDropped.noMatch = (s.noMatch.1.panelDropped, s.noMatch.2) :=
  congrArg (fun p => (s.withPnl p, PanelAnswer.plain .noMatch)) (Pnl.miss_toHunting s.pnl)

theorem State.lookUp_panelDropped (s : State) (code : Code) :
    s.panelDropped.lookUp code = ((s.lookUp code).1.panelDropped, (s.lookUp code).2) := by
  have holder : s.panelDropped.codeHolder code = s.codeHolder code := rfl
  have locker (n : LockerNo) : s.panelDropped.locker n = s.locker n := rfl
  simp only [State.lookUp, holder, locker, State.noMatch_panelDropped]
  split
  · rfl
  · split <;> rfl

/-- R158: a message decides the same where the receiver hunts again. -/
theorem State.runMessage_panelDropped (s : State) (m : PanelMsg) :
    s.panelDropped.runMessage m = ((s.runMessage m).1.panelDropped, (s.runMessage m).2) := by
  cases m with
  | present code =>
    have broken : s.panelDropped.breakClaim = s.breakClaim.panelDropped := rfl
    have throttled : s.panelDropped.pnl.throttled = s.pnl.throttled := rfl
    simp only [State.runMessage, State.present, broken, throttled, State.lookUp_panelDropped]
    split <;> rfl
  | confirm b =>
    have claim : s.panelDropped.pnl.claim = s.pnl.claim := rfl
    have locker (n : LockerNo) : s.panelDropped.locker n = s.locker n := rfl
    simp only [State.runMessage, State.confirm, claim, locker]
    split
    · split <;> rfl
    · rfl
  | abandon => rfl
  | presentStaff code b =>
    have throttled : s.panelDropped.pnl.throttled = s.pnl.throttled := rfl
    have cfg : s.panelDropped.cfg = s.cfg := rfl
    have locker (n : LockerNo) : s.panelDropped.locker n = s.locker n := rfl
    simp only [State.runMessage, State.presentStaff, throttled, cfg, locker, State.noMatch_panelDropped]
    split
    · rfl
    split
    · rfl
    split
    · rfl
    split <;> rfl

/-! ### Messages and faulty frames by the station state and the response being sent -/

section arrivals
variable {s : State}

/-- R157: with the part running and no response being sent, what PNL decides of a message is answered. -/
theorem exec_panelRow_of_decided {m : PanelMsg} {u : State} {a : PanelAnswer} (running : s.running = true)
    (idle : s.pnl.sending = none) (decided : s.runMessage m = (u, a)) :
    exec (panelRow m) s = .next (u.panelAnswered m.type a.code a.fields) := by
  have running' : s.panelDropped.running = true := running
  have answered : s.panelDropped.answerMessage m = u.panelAnswered m.type a.code a.fields := by
    rw [State.answerMessage, if_pos running', State.runMessage_panelDropped, decided]
    rfl
  rw [exec_panelRow, State.takeMessage, State.panelArrival_idle _ _ idle]
  exact congrArg _ answered

/-- R157: in STARTING and in HALTED every message is answered CONFIG_FAULT. -/
theorem exec_panelRow_of_notRunning (m : PanelMsg) (halted : s.running = false) (idle : s.pnl.sending = none) :
    exec (panelRow m) s = .next (s.panelAnswered m.type .configFault []) := by
  have halted' : s.panelDropped.running = false := halted
  have answered : s.panelDropped.answerMessage m = s.panelAnswered m.type .configFault [] := by
    rw [State.answerMessage, halted']
    rfl
  rw [exec_panelRow, State.takeMessage, State.panelArrival_idle _ _ idle]
  exact congrArg _ answered

/-- R157: a faulty frame is answered with its type echoed; CONFIG_FAULT stands first. -/
theorem exec_panelBadMessage_of_idle (f : PanelFault) (idle : s.pnl.sending = none) :
    exec (.panelBadMessage f) s =
      .next (s.panelAnswered (PanelFault.echo f) (if s.running then PanelFault.answer f else .configFault) []) := by
  rw [exec_panelBadMessage, State.takePanelFault, State.panelArrival_idle _ _ idle]
  rfl

/-- R158: a frame that arrives while a response is being sent is dropped. -/
theorem State.panelArrival_of_sending (take : State → State) (sending : s.pnl.sending ≠ none) :
    s.panelArrival take = s.panelDropped := by
  obtain ⟨r, sends⟩ := Option.ne_none_iff_exists'.mp sending
  exact s.panelArrival_busy take sends

end arrivals

/-! ### The throttle and the misses (R166, R167) -/

/-- R160, R167: the seconds left are rounded up, and 1 is sent where the timer stands at its end. -/
theorem secondsLeft_of_le {v : Nat} (bound : v ≤ 60000) :
    secondsLeft (some v) = if v = 60000 then 1 else (60000 - v + 999) / 1000 := by
  simp only [secondsLeft, throttleEnd]
  split <;> omega

theorem State.throttledAnswer_of_timer {s : State} {v : Nat} (timer : s.pnl.throttleTimer = some v)
    (bound : v ≤ 60000) : s.throttledAnswer =
      ⟨.throttled, [BitVec.ofNat 8 (if v = 60000 then 1 else (60000 - v + 999) / 1000)]⟩ := by
  rw [State.throttledAnswer, timer, secondsLeft_of_le bound]
  rfl

/-- R166: one of the first four misses. -/
theorem Pnl.miss_of_lt {p : Pnl} (few : p.missCount < 4) : p.miss = { p with missCount := p.missCount + 1 } := by
  have count : min 5 (p.missCount + 1) = p.missCount + 1 := by omega
  have fifth : p.missCount + 1 ≠ 5 := by omega
  simp only [Pnl.miss, count, if_neg fifth]

/-- R166: the fifth miss begins the throttle. -/
theorem Pnl.miss_of_four {p : Pnl} (four : p.missCount = 4) :
    p.miss = { p with missCount := 5, throttled := true, throttleTimer := some 0 } := by
  simp [Pnl.miss, four]

/-! ### PRESENT (R160, R161) -/

/-- R140, R160: a code that one locker alone holds is found there. -/
theorem State.codeHolder_of_unique {s : State} {code : Code} {n : LockerNo}
    (only : ∀ m, (s.locker m).pickupCode = some code ↔ m = n) : s.codeHolder code = some n := by
  cases found : s.codeHolder code with
  | none => exact absurd ((only n).mpr rfl) (by simpa using List.find?_eq_none.mp found n (allLockers_mem n))
  | some m => rw [(only m).mp (by simpa using List.find?_some found)]

theorem State.codeHolder_of_unheld {s : State} {code : Code} (unheld : ∀ n, (s.locker n).pickupCode ≠ some code) :
    s.codeHolder code = none :=
  List.find?_eq_none.mpr fun n _ => by simpa using unheld n

section present
variable {s : State} {code : Code}

theorem State.present_of_throttled (throttled : s.pnl.throttled = true) :
    s.present code = (s.breakClaim, s.throttledAnswer) := if_pos throttled

theorem State.present_of_open (throttle : s.pnl.throttled = false) : s.present code = s.breakClaim.lookUp code :=
  if_neg (by simp [throttle])

theorem State.lookUp_of_unheld (unheld : s.codeHolder code = none) : s.lookUp code = s.noMatch := by
  simp [State.lookUp, unheld]

variable {n : LockerNo} (holder : s.codeHolder code = some n)
include holder

theorem State.lookUp_of_holding (state : (s.locker n).state = .holding) :
    s.lookUp code = (s.withPnl (s.pnl.offer n), ⟨.offer, [byte1 n.val]⟩) := by
  simp [State.lookUp, holder, state]

theorem State.lookUp_of_notReady (state : (s.locker n).state = .booked ∨ (s.locker n).state = .loading) :
    s.lookUp code = (s, .plain .notReady) := by
  rcases state with state | state <;> simp [State.lookUp, holder, state]

theorem State.lookUp_of_opened (state : (s.locker n).state = .opened) : s.lookUp code = (s, .plain .busy) := by
  simp [State.lookUp, holder, state]

theorem State.lookUp_of_lockout (state : (s.locker n).state = .lockout) :
    s.lookUp code = (s, ⟨.lockedOut, [byte1 n.val]⟩) := by
  simp [State.lookUp, holder, state]

theorem State.lookUp_of_ended (state : (s.locker n).state = .clearing ∨ (s.locker n).state = .filing) :
    s.lookUp code = s.noMatch := by
  rcases state with state | state <;> simp [State.lookUp, holder, state]

end present

/-- Settles O36: a PRESENT breaks the claim; the throttle, and then the state of the locker that holds the code, decide
the answer. -/
theorem presentAnswers : Obligations.PresentAnswers := by
  unfold Obligations.PresentAnswers
  intro code s running idle overtaken broken missed shut missAnswer
  have answer {u : State} {a : PanelAnswer} (decided : s.present code = (u, a)) :
      exec (.present code) s = .next (u.panelAnswered 1 a.code a.fields) :=
    exec_panelRow_of_decided (m := .present code) running idle decided
  have miss (decided : s.present code = broken.noMatch) : missAnswer := by
    refine ⟨fun few => ?_, fun four => ?_⟩
    · have fresh : broken.pnl.miss = missed.pnl := Pnl.miss_of_lt few
      exact answer (decided.trans (by rw [State.noMatch, fresh]))
    · have fifth : broken.pnl.miss = shut.pnl := Pnl.miss_of_four four
      exact answer (decided.trans (by rw [State.noMatch, fifth]))
  refine ⟨fun v throttled timer bound => ?_, fun throttle unheld => ?_, fun n throttle only => ?_⟩
  · exact answer ((State.present_of_throttled throttled).trans
      (by rw [State.throttledAnswer_of_timer timer bound]))
  · have unheld' : broken.codeHolder code = none := State.codeHolder_of_unheld unheld
    exact miss ((State.present_of_open throttle).trans (State.lookUp_of_unheld unheld'))
  · have holder : broken.codeHolder code = some n := State.codeHolder_of_unique only
    have looked {r : State × PanelAnswer} (decided : broken.lookUp code = r) : s.present code = r :=
      (State.present_of_open throttle).trans decided
    exact ⟨fun state => answer (looked (State.lookUp_of_holding holder state)),
      fun state => answer (looked (State.lookUp_of_notReady holder state)),
      fun state => answer (looked (State.lookUp_of_opened holder state)),
      fun state => answer (looked (State.lookUp_of_lockout holder state)),
      fun state => miss (looked (State.lookUp_of_ended holder state))⟩

/-! ### CONFIRM and ABANDON (R162, R164) -/

theorem lockerOfByte_of_toNat {b : Byte} {n : LockerNo} (names : b.toNat = n.val) : lockerOfByte b = some n := by
  have range : b.toNat < 16 := names ▸ n.isLt
  rw [lockerOfByte, dif_pos range]
  exact congrArg some (Fin.ext names)

theorem lockerOfByte_of_ge {b : Byte} (beyond : 16 ≤ b.toNat) : lockerOfByte b = none :=
  dif_neg (Nat.not_lt.mpr beyond)

theorem toNat_of_lockerOfByte {b : Byte} {n : LockerNo} (names : lockerOfByte b = some n) : b.toNat = n.val := by
  unfold lockerOfByte at names
  split at names
  · rw [← Option.some.inj names]
  · cases names

theorem byte1_of_toNat {b : Byte} {n : Nat} (names : b.toNat = n) : byte1 n = b := by
  simp [byte1, ← names]

section confirm
variable {s : State} {b : Byte}

theorem State.confirm_of_claimed {n : LockerNo} (names : b.toNat = n.val) (claim : s.pnl.claim = some n)
    (holding : (s.locker n).state = .holding) : s.confirm b = (s.openForPickup n, ⟨.opened, [b]⟩) := by
  simp [State.confirm, claim, holding, lockerOfByte_of_toNat names, byte1_of_toNat names]

theorem State.confirm_of_other
    (other : ∀ n, s.pnl.claim = some n → b.toNat ≠ n.val ∨ (s.locker n).state ≠ .holding) :
    s.confirm b = (s, .plain .lapsed) := by
  unfold State.confirm
  split
  next n claim =>
    refine if_neg fun ⟨names, holding⟩ => ?_
    exact (other n claim).elim (fun differs => differs (toNat_of_lockerOfByte names)) fun left => left holding
  next => rfl

end confirm

/-- Settles O37: only the locker that the claim names, in HOLDING, is opened; the claim is consumed with it. -/
theorem confirmOpensTheClaimedLocker : Obligations.ConfirmOpensTheClaimedLocker := by
  unfold Obligations.ConfirmOpensTheClaimedLocker
  intro b s running idle
  have answer {u : State} {a : PanelAnswer} (decided : s.confirm b = (u, a)) :
      exec (.confirm b) s = .next (u.panelAnswered 2 a.code a.fields) :=
    exec_panelRow_of_decided (m := .confirm b) running idle decided
  exact ⟨fun n names claim holding => answer (State.confirm_of_claimed names claim holding),
    fun other => answer (State.confirm_of_other other)⟩

/-- Settles O38: ABANDON ends the claim; to end a claim that is not there changes nothing. -/
theorem abandonBreaksTheClaim : Obligations.AbandonBreaksTheClaim := by
  unfold Obligations.AbandonBreaksTheClaim
  intro s running idle
  have answer : exec .abandon s = .next (s.endClaim.panelAnswered 3 .ok []) :=
    exec_panelRow_of_decided (m := .abandon) running idle rfl
  refine ⟨answer, fun claim timer => ?_⟩
  have unchanged : s.endClaim = s := by simp only [State.endClaim, State.withPnl, ← claim, ← timer]
  rw [answer, unchanged]

/-! ### PRESENT-STAFF (R165) -/

section presentStaff
variable {s : State} {code : Code} {b : Byte}

theorem State.presentStaff_of_throttled (throttled : s.pnl.throttled = true) :
    s.presentStaff code b = (s, s.throttledAnswer) := if_pos throttled

variable (throttle : s.pnl.throttled = false)
include throttle

theorem State.presentStaff_of_wrongCode (wrong : code ≠ s.cfg.staffCode) : s.presentStaff code b = s.noMatch := by
  simp [State.presentStaff, throttle, wrong]

variable (right : code = s.cfg.staffCode)
include right

theorem State.presentStaff_of_beyond (beyond : 16 ≤ b.toNat) : s.presentStaff code b = (s, .plain .outOfRange) := by
  simp [State.presentStaff, throttle, right, lockerOfByte_of_ge beyond]

theorem State.presentStaff_of_otherState {n : LockerNo} (names : b.toNat = n.val)
    (state : (s.locker n).state ≠ .lockout) : s.presentStaff code b = (s, .plain .wrongState) := by
  simp [State.presentStaff, throttle, right, lockerOfByte_of_toNat names, state]

theorem State.presentStaff_of_lockout {n : LockerNo} (names : b.toNat = n.val)
    (state : (s.locker n).state = .lockout) : s.presentStaff code b = (s.toClearing n, ⟨.opened, [b]⟩) := by
  simp [State.presentStaff, throttle, right, lockerOfByte_of_toNat names, state, byte1_of_toNat names]

end presentStaff

/-- Settles O39: the throttle, the code, the locker number and the locker's state decide in this order. -/
theorem presentStaffAnswers : Obligations.PresentStaffAnswers := by
  unfold Obligations.PresentStaffAnswers
  intro code b s running idle
  have answer {u : State} {a : PanelAnswer} (decided : s.presentStaff code b = (u, a)) :
      exec (.presentStaff code b) s = .next (u.panelAnswered 4 a.code a.fields) :=
    exec_panelRow_of_decided (m := .presentStaff code b) running idle decided
  refine ⟨fun v throttled timer bound => ?_, fun throttle wrong => ?_, fun throttle right beyond => ?_,
    fun n throttle right names => ⟨fun state => ?_, fun state => ?_⟩⟩
  · exact answer ((State.presentStaff_of_throttled throttled).trans
      (by rw [State.throttledAnswer_of_timer timer bound]))
  · have missed := State.presentStaff_of_wrongCode (b := b) throttle wrong
    refine ⟨fun few => ?_, fun four => ?_⟩
    · exact answer (missed.trans (by rw [State.noMatch, Pnl.miss_of_lt few]))
    · exact answer (missed.trans (by rw [State.noMatch, Pnl.miss_of_four four]))
  · exact answer (State.presentStaff_of_beyond throttle right beyond)
  · exact answer (State.presentStaff_of_otherState throttle right names state)
  · exact answer (State.presentStaff_of_lockout throttle right names state)

/-! ### The timers of PNL (R158, R163, R167) -/

section timers
variable {s : State} {v : Nat}

theorem exec_claimTimerExpiry_of_due (timer : s.pnl.claimTimer = some v) (due : claimEnd ≤ v)
    (standing : s.overtaken.claim = false) : exec .claimTimerExpiry s = .next s.endClaim := by
  simp only [exec, execClaimTimerExpiry, standing, timer, s.onExpiry_atEnd due, Bool.false_eq_true, if_false]

theorem exec_throttleTimerExpiry_of_due (timer : s.pnl.throttleTimer = some v) (due : throttleEnd ≤ v) :
    exec .throttleTimerExpiry s = .next s.endThrottle := by
  simp only [exec, execThrottleTimerExpiry, timer, s.onExpiry_atEnd due]

theorem exec_panelGapTimerExpiry_of_due (timer : s.pnl.gapTimer = some v) (due : gapEnd ≤ v)
    (standing : s.overtaken.panelGap = false) : exec .panelGapTimerExpiry s = .next s.panelGapExpired := by
  simp only [exec, execPanelGapTimerExpiry, standing, timer, s.onExpiry_atEnd due, Bool.false_eq_true, if_false]

/-- R158: the frame whose length byte is awaited is abandoned before its type byte. -/
theorem State.panelGapExpired_of_length (awaits : s.pnl.receiver = .length) :
    s.panelGapExpired = s.takePanelFault .noType := by
  simp only [State.panelGapExpired, awaits]

theorem State.panelGapExpired_of_body (receives : s.pnl.receiver = .body) :
    s.panelGapExpired = s.takePanelFault (abandonedPanel s.pnl.kept) := by
  simp only [State.panelGapExpired, receives]

end timers

/-- R158: a type byte that was never received is echoed as type 0. -/
theorem abandonedPanel_of_short {kept : List Byte} (short : kept.length < 2) : abandonedPanel kept = .noType := by
  have absent : codeByte kept = none := List.getElem?_eq_none (Nat.le_of_lt_succ short)
  rw [abandonedPanel, absent]

/-- Settles O40: a faulty frame is answered by its kind, any frame that meets a response is dropped, and each of PNL's
timers that stands at its end has its effect. -/
theorem panelFramesAndTimers : Obligations.PanelFramesAndTimers := by
  unfold Obligations.PanelFramesAndTimers
  intro s
  refine ⟨fun running idle => ?_, fun sending => ⟨?_, fun m => ?_, fun f => ?_⟩, rfl,
    fun v timer due standing => ?_, fun v timer due => ?_, fun v timer due standing => ?_⟩
  · have answer (f : PanelFault) : exec (.panelBadMessage f) s =
        .next (s.panelAnswered (PanelFault.echo f) (PanelFault.answer f) []) := by
      rw [exec_panelBadMessage_of_idle f idle, if_pos running]
    exact ⟨answer _, fun t => ⟨answer _, answer _, answer _, answer _⟩⟩
  · obtain ⟨r, sends⟩ := Option.ne_none_iff_exists'.mp sending
    simp only [exec, execPanelFrameDropped, sends]
    rfl
  · rw [exec_panelRow, State.takeMessage, State.panelArrival_of_sending _ sending]
  · rw [exec_panelBadMessage, State.takePanelFault, State.panelArrival_of_sending _ sending]
  · exact exec_claimTimerExpiry_of_due timer due standing
  · exact exec_throttleTimerExpiry_of_due timer due
  · rw [exec_panelGapTimerExpiry_of_due timer due standing]
    refine ⟨fun awaits => ?_, fun receives short => ?_, fun len t rest receives kept => ?_⟩
    · rw [State.panelGapExpired_of_length awaits, exec_panelBadMessage]
    · rw [State.panelGapExpired_of_body receives, abandonedPanel_of_short short, exec_panelBadMessage]
    · rw [State.panelGapExpired_of_body receives, kept, exec_panelBadMessage]
      rfl

end Sys2Proof.Machine

/-! PROOFS. What the two serial lines answer while the part does not run (R157, R179). -/

namespace Sys2Proof.Machine

/-- R8: the three commands that read the tray inputs take their levels at their arrival. -/
theorem exec_serviceRow (trays : Lines) (c : ServiceCmd) (s : State) :
    exec (serviceRow trays c) s = .next ((s.atArrival trays c).serve c) := by
  cases c <;> rfl

@[simp] theorem State.atArrival_svl (s : State) (trays : Lines) (c : ServiceCmd) :
    (s.atArrival trays c).svl = s.svl := by
  cases c <;> simp [State.atArrival]

@[simp] theorem State.atArrival_pvt (s : State) (trays : Lines) (c : ServiceCmd) :
    (s.atArrival trays c).pvt = s.pvt := by
  cases c <;> simp [State.atArrival]

section dispatch
variable {s : State}

theorem State.station_of_notRunning (asleep : s.running = false) :
    s.pvt.station = .starting ∨ s.pvt.station = .halted := by
  cases station : s.pvt.station with
  | starting => exact .inl rfl
  | halted => exact .inr rfl
  | listening | joined | isolated => simp [State.running, station, Station.running] at asleep

/-- R179: in STARTING and in HALTED a command is answered CONFIG_FAULT, but for QUERY-BANK in HALTED. -/
theorem State.dispatch_of_notRunning {c : ServiceCmd} (asleep : s.running = false)
    (refused : s.pvt.station = .starting ∨ c ≠ .queryBank) : s.dispatch c = (s, .plain .configFault) := by
  rcases s.station_of_notRunning asleep with starting | halted
  · simp only [State.dispatch, starting]
  · have other : c ≠ .queryBank := refused.resolve_left (by simp [halted])
    cases c with
    | queryBank => exact absurd rfl other
    | book | load | abortLoad | cancel | queryOrder | queryLocker | fetch | release | hideLocker | showLocker
    | staffOpen => simp only [State.dispatch, halted]

theorem State.dispatch_queryBank_of_halted (halted : s.pvt.station = .halted) :
    s.dispatch .queryBank = (s, ⟨.ok, s.bankReport⟩) := by
  simp only [State.dispatch, halted]

/-- R177 to R179: an answer that leaves the state as it is. -/
theorem State.serve_of_dispatch {c : ServiceCmd} {a : Answer} (idle : s.svl.inProgress = none)
    (decided : (s.withSvl s.svl.toHunting).dispatch c = (s.withSvl s.svl.toHunting, a)) :
    s.serve c = s.answered c.code a.code a.fields := by
  rw [State.serve, State.serviceArrival_idle _ _ idle, State.answerCommand, decided]
  rfl

end dispatch

/-- Settles O52: the dispatch of commands and the judgement of panel frames both ask first whether the part runs. -/
theorem configFaultWhileNotRunning : Obligations.ConfigFaultWhileNotRunning := by
  unfold Obligations.ConfigFaultWhileNotRunning
  intro s asleep
  refine ⟨fun idle => ⟨fun trays c refused => ?_, fun halted => ?_⟩, fun idle => ⟨fun m => ?_, ?_⟩⟩
  · have answer : (s.atArrival trays c).serve c = (s.atArrival trays c).answered c.code .configFault [] :=
      State.serve_of_dispatch (by simpa using idle)
        (State.dispatch_of_notRunning (by simpa [State.running] using asleep) (by simpa using refused))
    rw [exec_serviceRow, answer]
  · exact congrArg _ (State.serve_of_dispatch (c := .queryBank) idle (State.dispatch_queryBank_of_halted halted))
  · exact exec_panelRow_of_notRunning m asleep idle
  · have answer (f : PanelFault) : exec (.panelBadMessage f) s =
        .next (s.panelAnswered (PanelFault.echo f) .configFault []) := by
      rw [exec_panelBadMessage_of_idle f idle, asleep]
      rfl
    exact ⟨answer _, fun t => ⟨answer _, answer _, answer _, answer _⟩⟩

end Sys2Proof.Machine

/-! PROOFS. The frames of the two serial lines: how they are written, and how the bytes after SYNC are judged (R157,
R158, R175, R177). -/

namespace Sys2Proof.Machine

/-! ### The sum of a frame's bytes (R175) -/

theorem byteSum_eq_sum (bytes : List Byte) : byteSum bytes = (bytes.map BitVec.toNat).sum := by
  rw [List.sum_eq_foldl, List.foldl_map]
  rfl

/-- R175: the check byte makes the sum of all bytes, SYNC counted in, a multiple of 256. -/
theorem sum_checkByte (bytes : List Byte) :
    ((syncByte :: (bytes ++ [checkByte bytes])).map BitVec.toNat).sum % 256 = 0 := by
  have check : (checkByte bytes).toNat = (256 - ((syncByte :: bytes).map BitVec.toNat).sum % 256) % 256 := by
    rw [checkByte, byteSum_eq_sum, BitVec.toNat_ofNat]
  simp only [List.map_cons, List.sum_cons, List.map_append, List.sum_append, List.map_nil, List.sum_nil] at check ⊢
  omega

theorem sumGood_iff (kept : List Byte) : sumGood kept = true ↔ (165 + (kept.map BitVec.toNat).sum) % 256 = 0 := by
  rw [sumGood, byteSum_eq_sum, beq_iff_eq]
  rfl

/-! ### Frames as they are written (R158, R175) -/

/-- A frame as the manual writes it: SYNC, the length of the body, the body, and a check byte by which the sum of all
bytes is a multiple of 256. -/
def Framed (body frame : List Byte) : Prop :=
  (∃ check, frame = [165, BitVec.ofNat 8 body.length] ++ body ++ [check]) ∧ (frame.map BitVec.toNat).sum % 256 = 0

theorem framed_frameBytes (first : Byte) (fields : List Byte) :
    Framed (first :: fields) (syncByte :: frameBytes first fields) :=
  ⟨⟨_, rfl⟩, sum_checkByte _⟩

/-- R175: the response codes in the order of their numbers. -/
theorem RespCode.number_eq_idxOf (c : RespCode) : c.number = ([.ok, .badFrame, .unknown, .configFault, .outOfRange,
    .profileInvalid, .dupOrder, .dupCode, .full, .notFound, .wrongState, .busy, .notReady, .hideLocked, .trayPresent,
    .filed, .empty, .opened] : List RespCode).idxOf c := by
  cases c <;> rfl

/-- R158: the panel response codes in the order of their numbers. -/
theorem PanelCode.number_eq_idxOf (c : PanelCode) : c.number = ([.ok, .badMessage, .unknown, .configFault, .offer,
    .notReady, .busy, .lockedOut, .noMatch, .opened, .lapsed, .wrongState, .outOfRange, .throttled] :
    List PanelCode).idxOf c := by
  cases c <;> rfl

/-- R175: the discarded flag stands in bit 7 of the status. -/
theorem ServiceResponse.status_eq (r : ServiceResponse) :
    r.status = r.code.number + if r.discarded then 128 else 0 := by
  cases flag : r.discarded <;> simp [ServiceResponse.status, flag]

/-! ### Numbers as bytes and back (R175) -/

theorem join3_split3 (c : Code) :
    join3 (BitVec.ofNat 8 (c.toNat / 65536)) (BitVec.ofNat 8 (c.toNat / 256)) (BitVec.ofNat 8 c.toNat) = c := by
  apply BitVec.eq_of_toNat_eq
  have range := c.isLt
  simp only [join3, BitVec.toNat_ofNat]
  omega

theorem join4_split4 (r : OrderRef) :
    join4 (BitVec.ofNat 8 (r.toNat / 16777216)) (BitVec.ofNat 8 (r.toNat / 65536)) (BitVec.ofNat 8 (r.toNat / 256))
      (BitVec.ofNat 8 r.toNat) = r := by
  apply BitVec.eq_of_toNat_eq
  have range := r.isLt
  simp only [join4, BitVec.toNat_ofNat]
  omega

/-! ### The refs of a LOAD (R175) -/

theorem joinRefs_flatMap_split4 (refs : List OrderRef) : joinRefs (refs.flatMap split4) = some refs := by
  induction refs with
  | nil => rfl
  | cons r rest ih =>
    rw [List.flatMap_cons, split4]
    simp only [List.cons_append, List.nil_append, joinRefs, ih, join4_split4, Option.map_some]

theorem length_of_joinRefs {bytes : List Byte} {refs : List OrderRef} (joined : joinRefs bytes = some refs) :
    bytes.length = 4 * refs.length := by
  induction bytes using joinRefs.induct generalizing refs with
  | case1 => simp [← Option.some.inj joined]
  | case2 a b c d rest ih =>
    obtain ⟨later, joins, rfl⟩ := Option.map_eq_some_iff.mp joined
    simp only [List.length_cons, ih joins]
    omega
  | case3 a rest uneven => simp [joinRefs] at joined

/-- Bytes that come out even are the bytes of so many refs. -/
theorem exists_joinRefs {bytes : List Byte} {count : Nat} (length : bytes.length = 4 * count) :
    ∃ refs, joinRefs bytes = some refs ∧ refs.length = count := by
  induction count generalizing bytes with
  | zero => exact ⟨[], by rw [List.length_eq_zero_iff.mp length]; rfl, rfl⟩
  | succ count ih =>
    rcases bytes with _ | ⟨a, _ | ⟨b, _ | ⟨c, _ | ⟨d, rest⟩⟩⟩⟩
    iterate 4
      simp only [List.length_nil, List.length_cons] at length
      omega
    have later : rest.length = 4 * count := by
      simp only [List.length_cons] at length
      omega
    obtain ⟨refs, joined, counted⟩ := ih later
    refine ⟨join4 a b c d :: refs, ?_, by rw [List.length_cons, counted]⟩
    simp only [joinRefs, joined, Option.map_some]

/-! ### The fields of a command (R175) -/

/-- R175: the fields that fit each command code. -/
def ServiceFit (code : Nat) (fields : List Byte) : Prop :=
  match code with
  | 1 => fields.length = 8 ∨ fields.length = 9
  | 2 => ∃ count force rest, fields = count :: force :: rest ∧ rest.length = 4 * count.toNat
  | 3 | 7 | 8 => fields.length = 0
  | 4 | 5 | 9 => fields.length = 4
  | _ => fields.length = 1

/-- R175: a BOOK has one byte more where it names a preferred locker. -/
theorem serviceFields_book_isSome_iff (fields : List Byte) :
    (serviceFields 1 fields).isSome ↔ fields.length = 8 ∨ fields.length = 9 := by
  rcases fields with _ | ⟨a, _ | ⟨b, _ | ⟨c, _ | ⟨d, _ | ⟨e, _ | ⟨f, _ | ⟨g, _ | ⟨p, _ | ⟨l, _ | ⟨x, rest⟩⟩⟩⟩⟩⟩⟩⟩⟩⟩ <;>
    simp [serviceFields]

/-- R175: a LOAD carries as many refs as its count byte says. -/
theorem serviceFields_load_isSome_iff (fields : List Byte) : (serviceFields 2 fields).isSome ↔
    ∃ count force rest, fields = count :: force :: rest ∧ rest.length = 4 * count.toNat := by
  constructor
  · intro some
    simp only [serviceFields] at some
    split at some
    next count force rest =>
      split at some
      next refs joined =>
        split at some
        next counted => exact ⟨count, force, rest, rfl, counted ▸ length_of_joinRefs joined⟩
        next => cases some
      next => cases some
    next => cases some
  · rintro ⟨count, force, rest, rfl, length⟩
    obtain ⟨refs, joined, counted⟩ := exists_joinRefs length
    simp [serviceFields, joined, counted]

theorem serviceFields_isSome_iff {code : Nat} (fields : List Byte) (least : 1 ≤ code) (most : code ≤ 12) :
    (serviceFields code fields).isSome ↔ ServiceFit code fields := by
  have codes : code = 1 ∨ code = 2 ∨ (code = 3 ∨ code = 7 ∨ code = 8) ∨ (code = 4 ∨ code = 5 ∨ code = 9)
      ∨ code = 6 ∨ code = 10 ∨ code = 11 ∨ code = 12 := by omega
  rcases codes with book | load | plain | withRef | withLocker
  · subst book
    exact serviceFields_book_isSome_iff fields
  · subst load
    exact serviceFields_load_isSome_iff fields
  · rcases plain with rfl | rfl | rfl <;> cases fields <;> simp [serviceFields, ServiceFit]
  · rcases withRef with rfl | rfl | rfl <;>
      rcases fields with _ | ⟨a, _ | ⟨b, _ | ⟨c, _ | ⟨d, _ | ⟨x, rest⟩⟩⟩⟩⟩ <;> simp [serviceFields, ServiceFit]
  · rcases withLocker with rfl | rfl | rfl | rfl <;>
      rcases fields with _ | ⟨l, _ | ⟨x, rest⟩⟩ <;> simp [serviceFields, ServiceFit]

/-- The command that a code and its fields spell has that code. -/
theorem code_of_serviceFields {code : Nat} {fields : List Byte} {c : ServiceCmd}
    (spelt : serviceFields code fields = some c) : c.code.toNat = code := by
  unfold serviceFields at spelt
  repeat' split at spelt
  all_goals cases spelt
  all_goals rfl

/-- R175: the code and the fields of a command spell it, where the count of a LOAD's refs fits its byte. -/
theorem serviceFields_of_cmd {c : ServiceCmd} (fits : c.wellFormed = true) :
    serviceFields c.code.toNat c.fields = some c := by
  cases c with
  | book ref code profile preferred =>
    have book (named : Option Byte) :=
      congr (congrArg (some <| ServiceCmd.book · · profile named) (join4_split4 ref)) (join3_split3 code)
    cases preferred with
    | none => exact book none
    | some b => exact book (some b)
  | load force refs =>
    have few : refs.length ≤ 9 := by simpa [ServiceCmd.wellFormed] using fits
    have count : refs.length % 256 = refs.length := by omega
    cases force <;> simp [serviceFields, ServiceCmd.code, ServiceCmd.fields, joinRefs_flatMap_split4, count]
  | cancel ref => exact congrArg (some <| ServiceCmd.cancel ·) (join4_split4 ref)
  | queryOrder ref => exact congrArg (some <| ServiceCmd.queryOrder ·) (join4_split4 ref)
  | release ref => exact congrArg (some <| ServiceCmd.release ·) (join4_split4 ref)
  | abortLoad | queryLocker | queryBank | fetch | hideLocker | showLocker | staffOpen => rfl

/-! ### The fields of a panel message (R158) -/

theorem panelFields_isSome_iff {type : Byte} (fields : List Byte) (least : 1 ≤ type.toNat) (most : type.toNat ≤ 4) :
    (panelFields type.toNat fields).isSome ↔
      fields.length = if type = 1 then 3 else if type = 2 then 1 else if type = 3 then 0 else 4 := by
  have types : type = 1 ∨ type = 2 ∨ type = 3 ∨ type = 4 := by bv_omega
  rcases types with rfl | rfl | rfl | rfl <;>
    rcases fields with _ | ⟨a, _ | ⟨b, _ | ⟨c, _ | ⟨l, _ | ⟨x, rest⟩⟩⟩⟩⟩ <;> simp [panelFields]

/-- The message that a type and its fields spell has that type. -/
theorem type_of_panelFields {type : Nat} {fields : List Byte} {m : PanelMsg}
    (spelt : panelFields type fields = some m) : m.type.toNat = type := by
  unfold panelFields at spelt
  repeat' split at spelt
  all_goals cases spelt
  all_goals rfl

theorem panelFields_of_msg (m : PanelMsg) : panelFields m.type.toNat m.fields = some m := by
  cases m with
  | present code => exact congrArg (some <| PanelMsg.present ·) (join3_split3 code)
  | presentStaff code l => exact congrArg (some <| PanelMsg.presentStaff · l) (join3_split3 code)
  | confirm | abandon => rfl

/-! ### The judgement of a frame (R157, R177) -/

section judgement
variable (len c check : Byte) (fields : List Byte)

/-- The second byte after SYNC is the code or the type. -/
theorem codeByte_of_kept : codeByte (len :: c :: fields ++ [check]) = some c := rfl

/-- The fields stand between the code and the check byte. -/
theorem fields_of_kept : ((len :: c :: fields ++ [check]).drop 2).dropLast = fields := by simp

variable {len c check fields}

/-- R157, R177: the sum is the first check. -/
theorem judge_of_badSum (bad : sumGood (len :: c :: fields ++ [check]) = false) :
    judgeService (len :: c :: fields ++ [check]) = .error (.badSum c)
      ∧ judgePanel (len :: c :: fields ++ [check]) = .error (.badSum c) := by
  simp only [judgeService, judgePanel, codeByte_of_kept, bad, Bool.not_false, if_true, and_self]

variable (good : sumGood (len :: c :: fields ++ [check]) = true)
include good

theorem judgeService_of_unknownCode (unknown : c.toNat = 0 ∨ 12 < c.toNat) :
    judgeService (len :: c :: fields ++ [check]) = .error (.unknownCode c) := by
  simp only [judgeService, codeByte_of_kept, good, Bool.not_true, Bool.false_eq_true, if_false, if_pos unknown]

theorem judgePanel_of_unknownType (unknown : c.toNat = 0 ∨ 4 < c.toNat) :
    judgePanel (len :: c :: fields ++ [check]) = .error (.unknownType c) := by
  simp only [judgePanel, codeByte_of_kept, good, Bool.not_true, Bool.false_eq_true, if_false, if_pos unknown]

/-- R177: a sum and a code that pass leave the length. -/
theorem judgeService_of_knownCode (least : 1 ≤ c.toNat) (most : c.toNat ≤ 12) :
    judgeService (len :: c :: fields ++ [check]) =
      (serviceFields c.toNat fields).elim (.error (.badLength c)) .ok := by
  have known : ¬(c.toNat = 0 ∨ 12 < c.toNat) := by omega
  simp only [judgeService, codeByte_of_kept, fields_of_kept, good, Bool.not_true, Bool.false_eq_true, if_false, known]
  cases serviceFields c.toNat fields <;> rfl

/-- R157: a sum and a type that pass leave the length. -/
theorem judgePanel_of_knownType (least : 1 ≤ c.toNat) (most : c.toNat ≤ 4) :
    judgePanel (len :: c :: fields ++ [check]) = (panelFields c.toNat fields).elim (.error (.badLength c)) .ok := by
  have known : ¬(c.toNat = 0 ∨ 4 < c.toNat) := by omega
  simp only [judgePanel, codeByte_of_kept, fields_of_kept, good, Bool.not_true, Bool.false_eq_true, if_false, known]
  cases panelFields c.toNat fields <;> rfl

end judgement

/-- R175: every frame has a good sum. -/
theorem sumGood_frameBytes (first : Byte) (fields : List Byte) : sumGood (frameBytes first fields) = true :=
  (sumGood_iff _).mpr (sum_checkByte (BitVec.ofNat 8 (fields.length + 1) :: first :: fields))

/-- R175, R177: the frame of a command is judged to be that command. -/
theorem judgeService_frame {c : ServiceCmd} (fits : c.wellFormed = true) : judgeService c.frame = .ok c := by
  have known : 1 ≤ c.code.toNat ∧ c.code.toNat ≤ 12 := by cases c <;> simp [ServiceCmd.code]
  have judged := judgeService_of_knownCode (sumGood_frameBytes c.code c.fields) known.1 known.2
  rw [serviceFields_of_cmd fits] at judged
  exact judged

/-- R157, R158: the frame of a message is judged to be that message. -/
theorem judgePanel_frame (m : PanelMsg) : judgePanel m.frame = .ok m := by
  have known : 1 ≤ m.type.toNat ∧ m.type.toNat ≤ 4 := by cases m <;> simp [PanelMsg.type]
  have judged := judgePanel_of_knownType (sumGood_frameBytes m.type m.fields) known.1 known.2
  rw [panelFields_of_msg m] at judged
  exact judged

/-! ### The obligation -/

/-- Settles O51: a frame is written with a check byte that makes its sum good; of the bytes kept, the fields are those
between code and check, and they spell a command exactly where their length fits. -/
theorem framesAreJudgedAsSent : Obligations.FramesAreJudgedAsSent := by
  unfold Obligations.FramesAreJudgedAsSent
  intro byte framed
  refine ⟨fun _ => rfl, fun _ => rfl, fun c => ?_, fun m => ?_, fun r => ?_, fun r => ?_,
    fun _ => judgeService_frame, judgePanel_frame, ?_⟩
  · cases c <;> exact framed_frameBytes _ _
  · cases m <;> exact framed_frameBytes _ _
  · rw [← RespCode.number_eq_idxOf, ← ServiceResponse.status_eq]
    exact framed_frameBytes _ _
  · rw [← PanelCode.number_eq_idxOf]
    exact framed_frameBytes _ _
  · intro c check fields _ kept good fits fitsPanel
    have sum : good ↔ sumGood kept = true := (sumGood_iff kept).symm
    have zero : c = 0 → c.toNat = 0 := fun none => by rw [none]; rfl
    refine ⟨fun bad => ?_, fun passes unknown => ?_, fun passes least most unfit => ?_,
      fun passes least most fit => ?_, fun passes unknown => ?_, fun passes least most unfit => ?_,
      fun passes least most fit => ?_⟩
    · exact judge_of_badSum (Bool.eq_false_iff.mpr fun passes => bad (sum.mpr passes))
    · exact judgeService_of_unknownCode (sum.mp passes) (unknown.imp_left zero)
    · have length := mt (serviceFields_isSome_iff fields least most).mp unfit
      have judged := judgeService_of_knownCode (sum.mp passes) least most
      rwa [Option.not_isSome_iff_eq_none.mp length] at judged
    · obtain ⟨cmd, spelt⟩ := Option.isSome_iff_exists.mp ((serviceFields_isSome_iff fields least most).mpr fit)
      have judged := judgeService_of_knownCode (sum.mp passes) least most
      rw [spelt] at judged
      exact ⟨cmd, judged, BitVec.eq_of_toNat_eq (code_of_serviceFields spelt)⟩
    · exact judgePanel_of_unknownType (sum.mp passes) (unknown.imp_left zero)
    · have length := mt (panelFields_isSome_iff fields least most).mp unfit
      have judged := judgePanel_of_knownType (sum.mp passes) least most
      rwa [Option.not_isSome_iff_eq_none.mp length] at judged
    · obtain ⟨m, spelt⟩ := Option.isSome_iff_exists.mp ((panelFields_isSome_iff fields least most).mpr fit)
      have judged := judgePanel_of_knownType (sum.mp passes) least most
      rw [spelt] at judged
      exact ⟨m, judged, BitVec.eq_of_toNat_eq (type_of_panelFields spelt)⟩

end Sys2Proof.Machine

/-! PROOFS. CFL: the bytes of the configuration image, and the ten checks made on them (R89, R182, R184). -/

namespace Sys2Proof.Machine

/-! ### The sum of words (R89) -/

/-- R89: the running sum takes each word by one addition. -/
theorem onesSum_append_singleton (ws : List Nat) (w : Nat) : onesSum (ws ++ [w]) = onesAdd (onesSum ws) w := by
  rw [onesSum, List.foldl_append]
  rfl

/-! ### The bytes and words of the image (R182) -/

theorem imageByte_lt (image : List Byte) (i : Nat) : imageByte image i < 256 := BitVec.isLt _

/-- R182: within a full image no byte falls back on a default. -/
theorem imageByte_of_full {image : List Byte} (full : image.length = 250) {i : Nat} (inside : i ≤ 250)
    (other : Byte) : imageByte image i = (image.getD (i - 1) other).toNat := by
  have driven : i - 1 < image.length := by omega
  rw [imageByte, List.getD_eq_getElem?_getD, List.getD_eq_getElem?_getD, List.getElem?_eq_getElem driven,
    Option.getD_some, Option.getD_some]

theorem imageWord_of_full {image : List Byte} (full : image.length = 250) {i : Nat} (inside : i ≤ 249)
    (other : Byte) :
    imageWord image i = (image.getD (i - 1) other).toNat * 256 + (image.getD (i + 1 - 1) other).toNat := by
  rw [imageWord, imageByte_of_full full (by omega) other, imageByte_of_full full (by omega) other]

/-- R183: a memory that drives 250 bytes is read as it stands. -/
theorem imageRead_of_full {image : List Byte} (full : image.length = 250) : imageRead image = image := by
  rw [imageRead, full, List.take_of_length_le (Nat.le_of_eq full)]
  exact List.append_nil image

/-- R184 check 2: the words summed are those at the odd bytes, counted from 1. -/
theorem wordsOf_take (image : List Byte) (n : Nat) (full : 2 * n ≤ image.length) :
    wordsOf (image.take (2 * n)) = (List.range n).map fun k => imageWord image (2 * k + 1) := by
  induction n generalizing image with
  | zero => simp [wordsOf]
  | succ n ih =>
    obtain _ | ⟨a, _ | ⟨b, rest⟩⟩ := image
    · simp at full
    · exact absurd full (by simp; omega)
    · have later := ih rest (by simp at full; omega)
      have shifted (k : Nat) : imageWord (a :: b :: rest) (2 * (k + 1) + 1) = imageWord rest (2 * k + 1) := rfl
      rw [List.range_succ_eq_map, List.map_cons, List.map_map, Nat.mul_succ, List.take_succ_cons,
        List.take_succ_cons, wordsOf, later]
      exact congrArg _ (List.map_congr_left fun k _ => (shifted k).symm)

/-- R182 bytes 21 to 23: three bytes fit the staff code. -/
theorem staffCode_toNat (image : List Byte) : (configOfImage image).staffCode.toNat =
    imageByte image 21 * 65536 + imageByte image 22 * 256 + imageByte image 23 := by
  have high := imageByte_lt image 21
  have middle := imageByte_lt image 22
  have low := imageByte_lt image 23
  have word : imageWord image 22 = imageByte image 22 * 256 + imageByte image 23 := rfl
  rw [configOfImage, BitVec.toNat_ofNat, word, Nat.mod_eq_of_lt (by omega), Nat.add_assoc]

/-! ### The checks in their order (R184) -/

/-- R184: a check that fails gives its reason, and one that passes leaves the judgement to the checks after it. -/
theorem find?_failed_cons {reason : FaultReason} {fails passes : Prop} [Decidable fails] [Decidable passes]
    {later : Option FaultReason} {checks : List (FaultReason × Bool)} (verdict : fails ↔ ¬passes)
    (rest : later = (checks.find? fun c => !c.2).map Prod.fst) :
    (if fails then some reason else later) =
      (((reason, decide passes) :: checks).find? fun c => !c.2).map Prod.fst := by
  by_cases passed : passes
  · rw [if_neg (mt verdict.mp (not_not_intro passed)), List.find?_cons_of_neg (by simp [passed]), rest]
  · rw [if_pos (verdict.mpr passed), List.find?_cons_of_pos (by simp [passed])]
    rfl

/-- R184 checks 9 and 10: an enabled range that leaves the station out. -/
theorem rangeFails_iff (base limit n : Nat) :
    (rangeEnabled base limit = true ∧ inRange base limit n = false) ↔ ¬(base ≤ limit → base ≤ n ∧ n ≤ limit) := by
  simp [rangeEnabled, inRange]

/-! ### The obligation -/

/-- Settles O6: check by check, over the bytes of a full image. -/
theorem imageChecksInOrder : Obligations.ImageChecksInOrder := by
  unfold Obligations.ImageChecksInOrder
  refine ⟨⟨rfl, onesSum_append_singleton⟩, ?_⟩
  intro image full b w
  have byte : ∀ i ≤ 250, b i = imageByte image i := fun i inside => (imageByte_of_full full inside 0).symm
  have word : ∀ i ≤ 249, w i = imageWord image i := fun i inside => (imageWord_of_full full inside 0).symm
  have words : (List.range 124).map (fun k => w (2 * k + 1)) = wordsOf (image.take 248) := by
    rw [wordsOf_take image 124 (by omega)]
    exact List.map_congr_left fun k inside => word _ (by have := List.mem_range.mp inside; omega)
  simp (disch := omega) only [words, byte, word]
  have heater : (configOfImage image).heaterCode = 0 ↔ ¬1 ≤ imageByte image 17 % 64 :=
    Nat.lt_one_iff.symm.trans Nat.not_le.symm
  have overtemp : ((configOfImage image).overtemp < 160 ∨ 250 < (configOfImage image).overtemp) ↔
      ¬(160 ≤ imageByte image 18 ∧ imageByte image 18 ≤ 250) := by
    rw [Decidable.not_and_iff_not_or_not, Nat.not_le, Nat.not_le]
    rfl
  have staff : 999999 < (configOfImage image).staffCode.toNat ↔
      ¬imageByte image 21 * 65536 + imageByte image 22 * 256 + imageByte image 23 ≤ 999999 := by
    rw [staffCode_toNat, Nat.not_le]
  exact find?_failed_cons Iff.rfl <| find?_failed_cons Iff.rfl <| find?_failed_cons Nat.not_le.symm <|
    find?_failed_cons heater <| find?_failed_cons overtemp <| find?_failed_cons Nat.not_le.symm <|
    find?_failed_cons Nat.not_le.symm <| find?_failed_cons staff <| find?_failed_cons (rangeFails_iff _ _ _) <|
    find?_failed_cons (rangeFails_iff _ _ _) rfl

end Sys2Proof.Machine

/-! PROOFS. CFL: what the read completion hands each block, field by field (R3, R91, R129, R176, R182, R184, R185). -/

namespace Sys2Proof.Machine

/-! ### The fields of the image by bytes and bits (R182) -/

theorem rateOfCode_eq (code : Nat) : rateOfCode code =
    if code % 4 = 0 then .r9600 else if code % 4 = 1 then .r19200 else if code % 4 = 2 then .r38400 else .r57600 := by
  have bound : code % 4 < 4 := Nat.mod_lt _ (by decide)
  unfold rateOfCode
  generalize code % 4 = rate at bound ⊢
  match rate, bound with
  | 0, _ | 1, _ | 2, _ | 3, _ => rfl

/-- R182: a code of `n` values stands in the low bits of its byte. -/
theorem finOfNat_mod (n : Nat) [NeZero n] (code : Nat) : Fin.ofNat n (code % n) = Fin.ofNat n code :=
  Fin.ext (Nat.mod_mod code n)

/-- R182: the present flag is bit 7, the highest of its byte. -/
theorem presentInImage_eq (image : List Byte) (p : ProfileNo) :
    presentInImage image p = decide (imageByte image (24 + 28 * p.val + 28) / 2 ^ 7 % 2 = 1) := by
  have byte := imageByte_lt image (24 + 28 * p.val + 28)
  rw [presentInImage, decide_eq_decide]
  omega

/-- R46: the four conditions of a slot's validity. -/
theorem storeSlot_valid_iff (present : Bool) (f : Profile) (overtemp : Nat) :
    (storeSlot present f overtemp).valid = true ↔ present = true ∧ 1 ≤ f.holdLimit ∧ f.holdLimit ≤ 240
      ∧ ∀ k, floorOf f + 5 ≤ setpointOf f k ∧ setpointOf f k < overtemp := by
  simp [storeSlot, profileSound, and_assoc]

/-! ### What the blocks do with their fields -/

/-- R3: a hidden locker is out of use. -/
theorem Locker.setUp_of_hidden (l : Locker) : l.setUp true = { l with state := .out, hidden := true }.refresh := rfl

/-- R3: a tray found in a locker locks it out. -/
theorem Locker.setUp_of_tray {l : Locker} (tray : l.trayPresent = true) : l.setUp false =
    { l with state := .lockout, lockoutCause := some .restart, tamper := !l.doorShut }.refresh :=
  if_pos tray

theorem Locker.setUp_of_noTray {l : Locker} (empty : l.trayPresent = false) :
    l.setUp false = { l with state := .free, tamper := !l.doorShut }.refresh :=
  if_neg (Bool.eq_false_iff.mp empty)

/-- R91: an idle line makes the receive path ready at once. -/
theorem Hbp.startSync_eq (h : Hbp) : h.startSync = { h with path := if h.lineIdle then .ready else .syncing } := rfl

/-- R129: only an asserted FEEDER-WARN changes the shed state. -/
theorem Fsc.readWarn_eq (f : Fsc) : f.readWarn = { f with shed := if f.feederWarn then .warned else f.shed } := by
  unfold Fsc.readWarn
  split <;> rfl

/-- R176: with no response being sent the rate changes at once. -/
theorem Svl.takeRate_of_idle {v : Svl} (idle : v.inProgress = none) (r : LineRate) : v.takeRate r = v.changeRate r := by
  simp only [Svl.takeRate, idle]

/-- R176: the rate waits for the end of the response being sent. -/
theorem Svl.takeRate_of_sending {v : Svl} (sending : v.inProgress ≠ none) (r : LineRate) :
    v.takeRate r = { v with pendingRate := some r } := by
  obtain ⟨response, sent⟩ := Option.ne_none_iff_exists'.mp sending
  simp only [Svl.takeRate, sent]

/-! ### The end of STARTING, block by block (R185) -/

@[simp] theorem State.sampleTrays_locker (s : State) (trays : Lines) (n : LockerNo) :
    (s.sampleTrays trays).locker n = { s.locker n with trayPresent := trays.getLsbD n.val } :=
  State.eachLocker_locker s _ n

section endStarting
variable (s : State) (image : List Byte)
@[simp] theorem State.endStarting_filing : (s.endStarting image).filing = s.filing := by
  simp [State.endStarting]
@[simp] theorem State.endStarting_slot (p : ProfileNo) : (s.endStarting image).slots[p] =
    storeSlot (presentInImage image p) (profileOfImage image p) (configOfImage image).overtemp := by
  simp [State.endStarting]
@[simp] theorem State.endStarting_hdf : (s.endStarting image).hdf = { s.hdf with windowTimer := some 0 } := by
  simp [State.endStarting]
@[simp] theorem State.endStarting_hbp : (s.endStarting image).hbp = s.hbp.startSync := by
  simp [State.endStarting]
@[simp] theorem State.endStarting_pvt : (s.endStarting image).pvt = { s.pvt with station := .listening } := by
  simp [State.endStarting]
@[simp] theorem State.endStarting_fsc : (s.endStarting image).fsc = s.fsc.readWarn := by
  simp [State.endStarting]
@[simp] theorem State.endStarting_bkc : (s.endStarting image).bkc = s.bkc := by
  simp [State.endStarting]
@[simp] theorem State.endStarting_pnl : (s.endStarting image).pnl = s.pnl := by
  simp [State.endStarting]
@[simp] theorem State.endStarting_ocl : (s.endStarting image).ocl = s.ocl := by
  simp [State.endStarting]
@[simp] theorem State.endStarting_svl : (s.endStarting image).svl = s.svl.takeRate (configOfImage image).rate := by
  simp [State.endStarting]
@[simp] theorem State.endStarting_cfl : (s.endStarting image).cfl =
    { s.cfl with image := some image, config := some (configOfImage image) } := by
  simp [State.endStarting]
@[simp] theorem State.endStarting_overtaken : (s.endStarting image).overtaken = s.overtaken := by
  simp [State.endStarting]
@[simp] theorem State.endStarting_pending : (s.endStarting image).pending = s.pending := by
  simp [State.endStarting]
@[simp] theorem State.endStarting_locker (n : LockerNo) : (s.endStarting image).locker n =
    (s.locker n).setUp ((configOfImage image).hideMask.getLsbD n.val) := by
  simp [State.endStarting]
end endStarting

theorem State.halt_eq (s : State) (image : List Byte) (r : FaultReason) : s.halt image r = { s with
    cfl := { s.cfl with image := some image, fault := some r }
    pvt := { s.pvt with station := .halted } } := rfl

/-- R183: the memory is selected through STARTING and at no other time. -/
theorem State.memorySelected_eq_false {s : State} (ended : s.pvt.station ≠ .starting) : s.memorySelected = false :=
  decide_eq_false ended

/-! ### The read completion (R184) -/

section completion
variable {s : State} {image : List Byte}

/-- R183: a full image reaches the judgement as the memory holds it. -/
theorem exec_readCompletion_of_full (trays : Lines) (starting : s.pvt.station = .starting) (full : image.length = 250) :
    exec (.readCompletion image trays) s = .next ((s.sampleTrays trays).readComplete image) := by
  have read : exec (.readCompletion image trays) s = .next ((s.sampleTrays trays).readComplete (imageRead image)) :=
    if_pos starting
  rw [read, imageRead_of_full full]

theorem State.readComplete_of_failed {r : FaultReason} (failed : judgeImage image = some r) :
    s.readComplete image = s.halt image r := by
  simp only [State.readComplete, failed]

theorem State.readComplete_of_passed (passed : judgeImage image = none) :
    s.readComplete image = s.endStarting image := by
  simp only [State.readComplete, passed]

end completion

/-! ### The obligation -/

/-- Settles O7: the judgement decides between HALTED and the end of STARTING, and each field of the image is read by its
bytes. -/
theorem readCompletionEndsStarting : Obligations.ReadCompletionEndsStarting := by
  unfold Obligations.ReadCompletionEndsStarting
  intro image trays s starting full b w bit c
  have byte : ∀ i ≤ 250, b i = imageByte image i := fun i inside => (imageByte_of_full full inside 0).symm
  have word : ∀ i ≤ 249, w i = imageWord image i := fun i inside => (imageWord_of_full full inside 0).symm
  have config : c = configOfImage image := by
    simp (disch := omega) only [c, bit, byte, word, configOfImage, rateOfCode_eq, imageWord, Nat.add_assoc,
      Nat.reducePow, Nat.div_one, Nat.reduceAdd]
  have completion := exec_readCompletion_of_full trays starting full
  have selected : s.memorySelected = true := decide_eq_true starting
  refine ⟨fun r failed => ?_, selected, selected, fun passed => ?_⟩
  · simp only [completion, State.readComplete_of_failed failed, State.halt_eq, State.sampleTrays_cfl,
      State.sampleTrays_pvt]
  rw [State.readComplete_of_passed passed] at completion
  have deselected : ((s.sampleTrays trays).endStarting image).memorySelected = false :=
    State.memorySelected_eq_false (by simp)
  refine ⟨_, completion, by simp, deselected, deselected, by simp [config], fun p => ?_, ?_, by simp,
    by simp [Hbp.startSync_eq], fun idle => ?_, fun sending => ?_, fun n => ?_, by simp, by simp, by simp, by simp,
    by simp, by simp⟩
  · intro q f present
    have profile : f = profileOfImage image p := by
      simp (disch := omega) only [f, q, bit, byte, profileOfImage, finOfNat_mod, Nat.add_assoc, Nat.reducePow]
    have flag : present = presentInImage image p := by
      simp (disch := omega) only [present, q, bit, byte, presentInImage_eq]
    rw [State.endStarting_slot, ← profile, ← flag, ← config]
    exact ⟨rfl, rfl, storeSlot_valid_iff _ _ _⟩
  · simp [Fsc.readWarn_eq]
  · simp [Svl.takeRate_of_idle idle, config, Svl.changeRate, Svl.toHunting]
  · simp [Svl.takeRate_of_sending sending, config]
  · rw [config, State.endStarting_locker, State.sampleTrays_locker]
    refine ⟨fun hidden => ?_, fun shown tray => ?_, fun shown empty => ?_⟩
    · rw [hidden, Locker.setUp_of_hidden]
    · rw [shown, Locker.setUp_of_tray tray]
    · rw [shown, Locker.setUp_of_noTray empty]

end Sys2Proof.Machine

/-! PROOFS. A step of the machine: the command at the front, or a millisecond that passes (log 2); and the time that
passes, block by block. -/

namespace Sys2Proof.Machine

/-! ### A step -/

theorem step_of_cons {s : State} {c : Instr} {rest : List Instr} (front : s.pending = c :: rest) :
    step s = exec c (s.withPending rest) := by
  simp only [step, front]

theorem step_of_nil {s : State} (empty : s.pending = []) : step s = .next (s.advance 1) := by
  simp only [step, empty]

/-- Settles O1: a step matches the queue. -/
theorem stepTakesFront : Obligations.StepTakesFront := by
  unfold Obligations.StepTakesFront
  intro c rest s front
  exact step_of_cons front

/-- Settles O2: a step on an empty queue lets one millisecond pass, and any time that passes is told by its rule for the
lockers, its rule for the blocks, and the blocks that keep no time. -/
theorem idleStepPassesOneMillisecond : Obligations.IdleStepPassesOneMillisecond := by
  unfold Obligations.IdleStepPassesOneMillisecond
  intro s passed
  have passes : ∀ d, 0 < d → passed d (s.advance d) := by
    intro d positive
    have passing : d ≠ 0 := Nat.ne_of_gt positive
    obtain ⟨hdf, fsc, pnl, svl⟩ := s.advance_blocks passing
    exact ⟨fun n => s.advance_locker passing n, hdf, fsc, pnl, svl, s.advance_filing d, s.advance_slots d,
      s.advance_hbp d, s.advance_pvt d, s.advance_bkc d, s.advance_ocl d, s.advance_cfl d, s.advance_pending d,
      s.advance_overtaken passing⟩
  exact ⟨fun empty => ⟨_, step_of_nil empty, passes 1 Nat.one_pos⟩, s.advance_zero, passes⟩

end Sys2Proof.Machine

/-! PROOFS. Every command has its next state, and leaves the waiting commands as they are (logs 6 and 21). -/

namespace Sys2Proof.Machine

/-! ### The waiting commands under what the blocks decide -/

theorem State.runCommand_pending (s : State) (c : ServiceCmd) : (s.runCommand c).1.pending = s.pending := by
  cases c with
  | book ref code profile preferred =>
    simp only [State.runCommand, State.book]
    iterate 4
      split
      · rfl
    split
    · exact State.assign_pending ..
    · rfl
  | load force refs =>
    simp only [State.runCommand, State.load]
    iterate 2
      split
      · rfl
    split
    · rfl
    · exact State.giveTurn_pending ..
  | abortLoad =>
    simp only [State.runCommand, State.abortLoad]
    split
    · rfl
    · exact State.relatch_pending ..
  | cancel ref =>
    simp only [State.runCommand, State.cancel]
    split
    · rfl
    split
    · simp
    · exact State.endInLockout_pending ..
    all_goals rfl
  | queryOrder | queryLocker | queryBank | fetch => rfl
  | release ref =>
    simp only [State.runCommand, State.release]
    split
    · simp
    · rfl
  | hideLocker b =>
    simp only [State.runCommand, State.hide]
    split
    · rfl
    iterate 4
      split
      · rfl
    rfl
  | showLocker b =>
    simp only [State.runCommand, State.showCmd]
    split
    · rfl
    iterate 4
      split
      · rfl
    rfl
  | staffOpen b =>
    simp only [State.runCommand, State.staffOpen]
    split
    · rfl
    split
    · exact State.toClearing_pending ..
    · rfl

theorem State.lookUp_pending (s : State) (code : Code) : (s.lookUp code).1.pending = s.pending := by
  unfold State.lookUp
  split
  · rfl
  split <;> rfl

theorem State.runMessage_pending (s : State) (m : PanelMsg) : (s.runMessage m).1.pending = s.pending := by
  cases m with
  | present code =>
    simp only [State.runMessage, State.present]
    split
    · rfl
    · exact State.lookUp_pending s.breakClaim code
  | confirm b =>
    simp only [State.runMessage, State.confirm]
    split
    · split
      · exact State.openForPickup_pending ..
      · rfl
    · rfl
  | abandon => rfl
  | presentStaff code b =>
    simp only [State.runMessage, State.presentStaff]
    iterate 2
      split
      · rfl
    split
    · rfl
    split
    · exact State.toClearing_pending ..
    · rfl

theorem State.readComplete_pending (s : State) (image : List Byte) : (s.readComplete image).pending = s.pending := by
  unfold State.readComplete
  split
  · rfl
  · exact State.endStarting_pending ..

/-! ### Commands that answer a next state with a property -/

/-- A meaning answers a next state, and that state has a property. -/
def NextWith (r : Result) (P : State → Prop) : Prop := ∃ t, r = .next t ∧ P t

section nextWith
variable {P : State → Prop} {u v : State}

theorem NextWith.next (holds : P u) : NextWith (.next u) P := ⟨u, rfl, holds⟩

/-- A meaning that answers one of two states by a test. -/
theorem NextWith.ite {c : Prop} [Decidable c] (yes : P u) (no : P v) :
    NextWith (if c then .next u else .next v) P := by
  split
  · exact .next yes
  · exact .next no

end nextWith

/-- A state whose waiting commands are those of `s`. -/
def State.SameQueue (s t : State) : Prop := t.pending = s.pending

section queue
variable (s : State)

theorem State.sameQueue_lineBlind : LineBlind s.SameQueue := ⟨fun _ _ h => h, fun _ _ h => h, fun _ _ h => h⟩

theorem State.sameQueue_refl : s.SameQueue s := rfl

theorem State.sameQueue_onExpiry (timer : Timer) (limit : Nat) {expire : State → State}
    (expired : ∀ t, (expire t).pending = t.pending) : s.SameQueue (s.onExpiry timer limit expire) :=
  s.onExpiry_keeps timer limit expire s.sameQueue_refl (fun d h => (State.advance_pending _ d).trans h)
    fun t h => (expired t).trans h

theorem State.sameQueue_runCommand (t : State) (c : ServiceCmd) (same : s.SameQueue t) :
    s.SameQueue (t.runCommand c).1 :=
  (t.runCommand_pending c).trans same

theorem State.sameQueue_runMessage (t : State) (m : PanelMsg) (same : s.SameQueue t) :
    s.SameQueue (t.runMessage m).1 :=
  (t.runMessage_pending m).trans same

theorem State.sameQueue_serve {u : State} (same : s.SameQueue u) (c : ServiceCmd) : s.SameQueue (u.serve c) :=
  s.sameQueue_lineBlind.serve same s.sameQueue_runCommand c

theorem State.sameQueue_takeMessage (m : PanelMsg) : s.SameQueue (s.takeMessage m) :=
  s.sameQueue_lineBlind.takeMessage s.sameQueue_refl s.sameQueue_runMessage m

theorem execSlotBoundary_sameQueue : NextWith (execSlotBoundary s) s.SameQueue := by
  unfold execSlotBoundary
  split
  · exact .next rfl
  · split
    · split
      · exact .next (by simp [State.SameQueue])
      · exact .next rfl
    · exact .next rfl

theorem execErroredAttempt_sameQueue (cause : AttemptError) : NextWith (execErroredAttempt cause s) s.SameQueue := by
  unfold execErroredAttempt
  split
  · cases cause with
    | differs => exact .ite rfl rfl
    | framing => exact .next rfl
  · exact .next rfl

theorem execPanelFrameDropped_sameQueue : NextWith (execPanelFrameDropped s) s.SameQueue := by
  unfold execPanelFrameDropped
  split <;> exact .next rfl

theorem execFrameDiscarded_sameQueue : NextWith (execFrameDiscarded s) s.SameQueue := by
  unfold execFrameDiscarded
  split <;> exact .next rfl

/-- Whatever the command, its meaning answers a next state with the same commands waiting. -/
theorem exec_sameQueue (c : Instr) : NextWith (exec c s) s.SameQueue := by
  have gap : ∀ t : State, t.gapExpired.pending = t.pending := fun t => t.sameQueue_lineBlind.gapExpired rfl
  have panelGap : ∀ t : State, t.panelGapExpired.pending = t.pending := fun t =>
    t.sameQueue_lineBlind.panelGapExpired rfl
  cases c with
  | reset => exact .next rfl
  | readCompletion image trays => exact .ite (State.readComplete_pending _ _) rfl
  | scanEvent n sample => exact .ite (s.scan_pending n sample) rfl
  | timedWindowStart => exact .ite rfl (s.sameQueue_onExpiry _ _ State.timedStart_pending)
  | slotBoundary => exact execSlotBoundary_sameQueue s
  | feederWarnAssertion => exact .ite (State.warnAsserted_pending _) rfl
  | feederWarnRelease => exact .ite (State.warnReleased_pending _) rfl
  | releaseHoldExpiry => exact .next (s.sameQueue_onExpiry _ _ State.releaseExpired_pending)
  | doorOpenEvent n => exact .ite (State.doorOpened_pending _ n) rfl
  | doorCloseEvent n tray => exact .ite rfl (State.doorClosed_pending _ n)
  | unlatchTimerExpiry n => exact .next (s.sameQueue_onExpiry _ _ fun t => t.unlatchExpired_pending n)
  | ajarTimerExpiry n => exact .next (s.sameQueue_onExpiry _ _ fun t => t.ajarExpired_pending n)
  | attemptStart | arbitrationLost | framingError => exact .ite rfl rfl
  | erroredAttempt cause => exact execErroredAttempt_sameQueue s cause
  | frameEnd => exact .next s.frameEnd_pending
  | fallingEdge => exact .next rfl
  | present | confirm | abandon | presentStaff => exact .next (s.sameQueue_takeMessage _)
  | panelBadMessage f => exact .next (s.sameQueue_lineBlind.takePanelFault s.sameQueue_refl f)
  | panelFrameDropped => exact execPanelFrameDropped_sameQueue s
  | panelGapTimerExpiry => exact .ite rfl (s.sameQueue_onExpiry _ _ panelGap)
  | panelResponseSent => exact .next rfl
  | claimTimerExpiry => exact .ite rfl (s.sameQueue_onExpiry _ _ State.endClaim_pending)
  | throttleTimerExpiry => exact .next (s.sameQueue_onExpiry _ _ State.endThrottle_pending)
  | panelByteReceived b framingError =>
    exact .next (s.sameQueue_lineBlind.panelByte s.sameQueue_refl s.sameQueue_runMessage b _)
  | book | load | abortLoad | cancel | queryBank | fetch | release | hideLocker | staffOpen =>
    exact .next (s.sameQueue_serve s.sameQueue_refl _)
  | queryOrder _ trays | queryLocker _ trays | showLocker _ trays =>
    exact .next (s.sameQueue_serve (s.sampleTrays_pending trays) _)
  | badFrame f => exact .next (s.sameQueue_lineBlind.serveFault s.sameQueue_refl f)
  | frameDiscarded => exact execFrameDiscarded_sameQueue s
  | gapTimerExpiry => exact .ite rfl (s.sameQueue_onExpiry _ _ gap)
  | responseSent => exact .next rfl
  | serviceByteReceived b framingError trays =>
    exact .next (s.sameQueue_lineBlind.serviceByte (s.sampleTrays_pending trays)
      s.sameQueue_runCommand b _)

end queue

/-- Settles O3: command by command, the meaning answers a next state with the same commands waiting. -/
theorem everyCommandCompletes : Obligations.EveryCommandCompletes := by
  unfold Obligations.EveryCommandCompletes
  intro c s
  exact exec_sameQueue s c

end Sys2Proof.Machine

/-! PROOFS. Expiries that come before their timer's end, overtaken expiries, and events that cannot arise in the present
state (logs 3, 14 and 22). -/

namespace Sys2Proof.Machine

/-! ### Commands that report the end of a timer (logs 3, 14 and 22) -/

/-- The flag of an expiry that nothing can overtake. -/
def neverOvertaken (_ : Overtaken) : Bool := false

/-- The command reports the end of a timer: where its expiry is not flagged as overtaken, it lets the timer expire. -/
structure ReportsEnd (c : Instr) (timer : State → Timer) (limit : Nat) (flag : Overtaken → Bool) : Prop where
  meaning : ∃ expire, ∀ s, flag s.overtaken = false → exec c s = .next (s.onExpiry (timer s) limit expire)
  ticks   : ∀ s d, d ≠ 0 → timer (s.advance d) = (timer s).tick limit d
  fresh   : flag Overtaken.reset = false

section reportsEnd
variable {c : Instr} {timer : State → Timer} {limit : Nat} {flag : Overtaken → Bool}
  (reports : ReportsEnd c timer limit flag) {s : State}
include reports

/-- Log 3: the command acts as on the state after the time that the timer lacks, for there the timer stands at its end
and no expiry is overtaken that was not before. -/
theorem ReportsEnd.early (standing : flag s.overtaken = false) {v : Nat} (runs : timer s = some v) :
    exec c s = exec c (s.advance (limit - v)) := by
  obtain ⟨expire, meaning⟩ := reports.meaning
  by_cases reached : limit - v = 0
  · rw [reached, s.advance_zero]
  · have fresh : flag (s.advance (limit - v)).overtaken = false := by
      rw [s.advance_overtaken reached, reports.fresh]
    have atEnd : timer (s.advance (limit - v)) = some limit := by
      rw [reports.ticks s _ reached, runs, Timer.tick_some]
      exact congrArg some (by omega)
    rw [meaning s standing, meaning _ fresh, runs, atEnd, State.onExpiry_some,
      State.onExpiry_atEnd _ (Nat.le_refl limit)]

/-- Log 14: while the timer is idle the command changes nothing. -/
theorem ReportsEnd.idle (standing : flag s.overtaken = false) (idle : timer s = none) : exec c s = .next s := by
  obtain ⟨expire, meaning⟩ := reports.meaning
  rw [meaning s standing, idle, State.onExpiry_none]

end reportsEnd

theorem reportsEnd_unlatchTimerExpiry (n : LockerNo) :
    ReportsEnd (.unlatchTimerExpiry n) (fun s => (s.locker n).unlatchTimer) unlatchEnd neverOvertaken where
  meaning := ⟨_, fun _ _ => rfl⟩
  ticks s _ passing := by rw [s.advance_locker passing]; rfl
  fresh := rfl

theorem reportsEnd_ajarTimerExpiry (n : LockerNo) :
    ReportsEnd (.ajarTimerExpiry n) (fun s => (s.locker n).ajarTimer) ajarEnd neverOvertaken where
  meaning := ⟨_, fun _ _ => rfl⟩
  ticks s _ passing := by rw [s.advance_locker passing]; rfl
  fresh := rfl

theorem reportsEnd_timedWindowStart :
    ReportsEnd .timedWindowStart (fun s => s.hdf.windowTimer) windowEnd Overtaken.windowStart where
  meaning := ⟨State.timedStart, execTimedWindowStart_due⟩
  ticks s _ passing := by rw [(s.advance_blocks passing).1]
  fresh := rfl

theorem reportsEnd_releaseHoldExpiry :
    ReportsEnd .releaseHoldExpiry (fun s => s.fsc.releaseHold) releaseEnd neverOvertaken where
  meaning := ⟨_, fun _ _ => rfl⟩
  ticks s _ passing := by rw [(s.advance_blocks passing).2.1]
  fresh := rfl

theorem reportsEnd_claimTimerExpiry :
    ReportsEnd .claimTimerExpiry (fun s => s.pnl.claimTimer) claimEnd Overtaken.claim where
  meaning := ⟨State.endClaim, fun _ standing => if_neg (by simp [standing])⟩
  ticks s _ passing := by rw [(s.advance_blocks passing).2.2.1]
  fresh := rfl

theorem reportsEnd_throttleTimerExpiry :
    ReportsEnd .throttleTimerExpiry (fun s => s.pnl.throttleTimer) throttleEnd neverOvertaken where
  meaning := ⟨_, fun _ _ => rfl⟩
  ticks s _ passing := by rw [(s.advance_blocks passing).2.2.1]
  fresh := rfl

theorem reportsEnd_panelGapTimerExpiry :
    ReportsEnd .panelGapTimerExpiry (fun s => s.pnl.gapTimer) gapEnd Overtaken.panelGap where
  meaning := ⟨State.panelGapExpired, fun _ standing => if_neg (by simp [standing])⟩
  ticks s _ passing := by rw [(s.advance_blocks passing).2.2.1]
  fresh := rfl

theorem reportsEnd_gapTimerExpiry :
    ReportsEnd .gapTimerExpiry (fun s => s.svl.gapTimer) gapEnd Overtaken.serviceGap where
  meaning := ⟨State.gapExpired, fun _ standing => if_neg (by simp [standing])⟩
  ticks s _ passing := by rw [(s.advance_blocks passing).2.2.2]
  fresh := rfl

/-! ### Events that cannot arise in the present state (log 14) -/

section impossible
variable {s : State}

theorem exec_slotBoundary_of_outside (standing : s.overtaken.slotBoundary = false)
    (outside : s.hdf.windowTimer = none ∨ s.hdf.currentSlot = none) : exec .slotBoundary s = .next s := by
  simp only [exec, execSlotBoundary, standing, Bool.false_eq_true, if_false]
  split
  next slot timer =>
    rcases outside with idle | before
    · exact absurd (idle.symm.trans timer) (by simp)
    · exact absurd (before.symm.trans slot) (by simp)
  next => rfl

theorem exec_feederWarnRelease_of_notWarned (outside : s.running = false ∨ s.fsc.shed ≠ .warned) :
    exec .feederWarnRelease s = .next (s.withFsc { s.fsc with feederWarn := false }) := by
  by_cases running : s.running = true
  · have notWarned : s.fsc.shed ≠ .warned := outside.resolve_left (by simp [running])
    rw [exec_feederWarnRelease_of_running running]
    cases shed : s.fsc.shed with
    | warned => exact absurd shed notWarned
    | clear | releasing | liftDue => simp only [State.warnReleased, State.withFsc_fsc, shed]
  · exact if_neg running

theorem exec_erroredAttempt_of_offLine (e : AttemptError) (offLine : s.hbp.onLine = false) :
    exec (.erroredAttempt e) s = .next s :=
  if_neg (by simp [offLine])

/-- R94, R95: beyond cell 78, and in a header cell sent as 1, no cell can differ in error. -/
theorem exec_erroredAttempt_differs_of_noError
    (noError : (s.hbp.inHeader && s.hbp.sentCell || decide (78 < s.hbp.cellsReceived)) = true) :
    exec (.erroredAttempt .differs) s = .next s := by
  simp only [exec, execErroredAttempt, noError, if_true, ite_self]

theorem exec_panelFrameDropped_of_idle (idle : s.pnl.sending = none) : exec .panelFrameDropped s = .next s := by
  simp only [exec, execPanelFrameDropped, idle]

theorem exec_frameDiscarded_of_idle (idle : s.svl.inProgress = none) : exec .frameDiscarded s = .next s := by
  simp only [exec, execFrameDiscarded, idle]

theorem exec_responseSent_of_idle (idle : s.svl.inProgress = none) : exec .responseSent s = .next s := by
  have unchanged : s.svl.responseEnd = s.svl := by simp only [Svl.responseEnd, idle]
  simp only [exec, execResponseSent, unchanged]
  rfl

end impossible

/-! ### The obligation -/

/-- Settles O4: the expiries by the end that they report, those overtaken by their flag, and each impossible event by
the test of its own meaning that it fails. -/
theorem timersAndImpossibleEvents : Obligations.TimersAndImpossibleEvents := by
  unfold Obligations.TimersAndImpossibleEvents
  intro s
  exact ⟨fun n _ => (reportsEnd_unlatchTimerExpiry n).early rfl, fun n _ => (reportsEnd_ajarTimerExpiry n).early rfl,
    fun _ standing => reportsEnd_timedWindowStart.early standing,
    fun _ => reportsEnd_releaseHoldExpiry.early rfl, fun _ standing => reportsEnd_claimTimerExpiry.early standing,
    fun _ => reportsEnd_throttleTimerExpiry.early rfl,
    fun _ standing => reportsEnd_panelGapTimerExpiry.early standing,
    fun _ standing => reportsEnd_gapTimerExpiry.early standing,
    fun overtaken => if_pos overtaken, fun overtaken => if_pos overtaken, fun overtaken => if_pos overtaken,
    fun overtaken => if_pos overtaken, fun overtaken => if_pos overtaken,
    fun n => (reportsEnd_unlatchTimerExpiry n).idle rfl, fun n => (reportsEnd_ajarTimerExpiry n).idle rfl,
    reportsEnd_timedWindowStart.idle, exec_slotBoundary_of_outside, reportsEnd_releaseHoldExpiry.idle rfl,
    reportsEnd_claimTimerExpiry.idle, reportsEnd_throttleTimerExpiry.idle rfl, reportsEnd_panelGapTimerExpiry.idle,
    reportsEnd_gapTimerExpiry.idle, exec_feederWarnRelease_of_notWarned, fun _ _ later => if_neg later,
    fun _ _ stopped => if_neg (by simp [stopped]), fun _ opened => if_neg (by simp [opened]),
    fun _ _ shut => if_pos shut, fun _ outside => if_neg (by tauto),
    fun outside => if_neg fun found => outside found.1, exec_erroredAttempt_of_offLine,
    fun beyond => exec_erroredAttempt_differs_of_noError (by simp [beyond]),
    fun first last sent => exec_erroredAttempt_differs_of_noError (by simp [Hbp.inHeader, first, last, sent]),
    fun outside => if_neg outside, exec_panelFrameDropped_of_idle,
    fun idle => ⟨exec_frameDiscarded_of_idle idle, exec_responseSent_of_idle idle⟩⟩

end Sys2Proof.Machine

/-! PROOFS. HDF and FSC: a slot boundary (R69, R79), and the assertion of FEEDER-WARN with the shed window start that it
brings in CLEAR (R82, R83, R131). -/

namespace Sys2Proof.Machine

/-! ### A slot boundary (R69, R79) -/

section boundary
variable {s : State} {j : Fin 16}

theorem exec_slotBoundary_of_last (standing : s.overtaken.slotBoundary = false) (last : s.hdf.currentSlot = some 15) :
    exec .slotBoundary s = .next s := by
  simp only [exec, execSlotBoundary, standing, last, Bool.false_eq_true, if_false]
  cases s.hdf.windowTimer <;> rfl

/-- The next slot becomes current once the time up to its start has passed. -/
theorem exec_slotBoundary_of_running {v : Nat} {k : Fin 16} (standing : s.overtaken.slotBoundary = false)
    (timer : s.hdf.windowTimer = some v) (slot : s.hdf.currentSlot = some j) (next : k.val = j.val + 1) :
    exec .slotBoundary s = .next ((s.advance (slotTime * k.val - v)).enterSlot k) := by
  have before : j.val + 1 < 16 := next ▸ k.isLt
  obtain rfl : k = ⟨j.val + 1, before⟩ := Fin.ext next
  simp only [exec, execSlotBoundary, standing, slot, timer, before, Bool.false_eq_true, if_false, dif_pos]

theorem State.advance_plan (s : State) (d : Nat) : (s.advance d).hdf.plan = s.hdf.plan := by
  by_cases zero : d = 0
  · rw [zero, s.advance_zero]
  · rw [(s.advance_blocks zero).1]

theorem State.advance_duty (s : State) (d : Nat) (n : LockerNo) :
    ((s.advance d).locker n).duty = (s.locker n).duty := by
  obtain ⟨_, _, _, kept⟩ := s.advance_locker_keeps d n
  rw [kept]

end boundary

/-- Settles O17: the boundary by the slot that is current, and what a slot's entry writes. -/
theorem slotBoundarySwitches : Obligations.SlotBoundarySwitches := by
  unfold Obligations.SlotBoundarySwitches
  intro s v timer standing
  refine ⟨fun before => exec_slotBoundary_of_outside standing (.inr before), exec_slotBoundary_of_last standing,
    fun j k slot next => ?_⟩
  intro r
  refine ⟨r.enterSlot k, exec_slotBoundary_of_running standing timer slot next, fun n => ?_, r.enterSlot_hdf k,
    r.enterSlot_filing k, r.enterSlot_slots k, r.enterSlot_hbp k, r.enterSlot_pvt k, r.enterSlot_fsc k,
    r.enterSlot_bkc k, r.enterSlot_pnl k, r.enterSlot_ocl k, r.enterSlot_svl k, r.enterSlot_cfl k,
    r.enterSlot_pending k, r.enterSlot_overtaken k⟩
  rw [State.enterSlot_locker, State.advance_plan, State.advance_duty]

/-! ### The assertion of FEEDER-WARN (R128, R131) -/

section assertion
variable {s : State}

theorem exec_feederWarnAssertion_of_notRunning (stopped : s.running = false) :
    exec .feederWarnAssertion s = .next (s.withFsc { s.fsc with feederWarn := true }) :=
  if_neg (by simp [stopped])

theorem State.warnAsserted_of_warned (warned : s.fsc.shed = .warned) : s.warnAsserted = s := by
  simp only [State.warnAsserted, warned]

theorem State.warnAsserted_of_clear (clear : s.fsc.shed = .clear) :
    s.warnAsserted = (s.withFsc { s.fsc with shed := .warned }).shedStart := by
  simp only [State.warnAsserted, clear]

end assertion

/-! ### The shed window start (R82, R83) -/

/-- A boundary is due in slots 0 to 14, at 125 ms times the number of the next slot (R69). -/
theorem Hdf.boundaryDue_eq (h : Hdf) : h.boundaryDue = (List.finRange 15).any fun j =>
    decide (h.currentSlot = some j.castSucc ∧ h.windowTimer = some (125 * (j.val + 1))) := by
  rw [Bool.eq_iff_iff]
  simp only [List.any_eq_true, List.mem_finRange, true_and, decide_eq_true_eq]
  constructor
  · intro due
    unfold Hdf.boundaryDue at due
    split at due
    next j v slot timer =>
      simp only [Bool.and_eq_true, decide_eq_true_eq] at due
      obtain ⟨early, rfl⟩ := due
      exact ⟨⟨j.val, early⟩, slot, timer⟩
    next => exact absurd due Bool.false_ne_true
  · rintro ⟨j, slot, timer⟩
    simp [Hdf.boundaryDue, slot, timer, slotTime]

/-- The state that a shed window start hands to the share: the window restarted, the calls set. -/
def State.shedHanded (s : State) : State := s.overtakeWindow.restartWindow.setCalls

theorem State.shedStart_eq (s : State) : s.shedStart = (s.shedHanded.share s.shedHanded.ownDemand).fillAndPack := rfl

section shedStart
variable (s : State)

@[simp] theorem State.shedHanded_slots : s.shedHanded.slots = s.slots := rfl
@[simp] theorem State.shedHanded_cfg : s.shedHanded.cfg = s.cfg := rfl
@[simp] theorem State.shedHanded_pvt : s.shedHanded.pvt = s.pvt := rfl
@[simp] theorem State.shedHanded_fsc : s.shedHanded.fsc = s.fsc := rfl

@[simp] theorem State.shedHanded_locker (n : LockerNo) : s.shedHanded.locker n = s.callLocker (s.locker n) :=
  State.eachLocker_locker ..

@[simp] theorem State.shedHanded_ownDemand : s.shedHanded.ownDemand = s.setCalls.ownDemand :=
  State.ownDemand_congr (fun n => by rw [State.shedHanded_locker, State.setCalls_locker]) rfl

/-- R82: the budgets and the allowance are computed under the shed state and the view that the start finds. -/
theorem State.shedStart_fsc : s.shedStart.fsc = { s.fsc with
    feederBudget := feederEffective s.cfg s.fsc.shed
    branchBudget := branchEffective s.cfg
    allowance := allowanceOf s.cfg s.pvt s.setCalls.ownDemand (feederEffective s.cfg s.fsc.shed)
      (branchEffective s.cfg) } := by
  simp [State.shedStart_eq, State.share]

/-- The plan goes by the lockers, the profiles and the configuration that the start finds, not by its shed state. -/
theorem State.shedStart_windowPlanned {s u : State} (lockers : ∀ n, u.locker n = s.locker n)
    (slots : u.slots = s.slots) (cfg : u.cfg = s.cfg) : s.WindowPlanned u.shedStart u.shedStart.fsc.allowance := by
  rw [State.shedStart_eq, State.fillAndPack_fsc]
  refine State.WindowPlanned.ofFillAndPack (fun n => ?_) slots cfg rfl
  calc u.shedHanded.locker n
    _ = u.callLocker (s.locker n) := by rw [State.shedHanded_locker, lockers]
    _ = s.callLocker (s.locker n) := State.callLocker_congr slots cfg _

theorem State.shedStart_overtaken : s.shedStart.overtaken = { s.overtaken with
    windowStart := s.overtaken.windowStart || s.hdf.windowTimer.due windowEnd
    slotBoundary := s.overtaken.slotBoundary || s.hdf.boundaryDue } := rfl

end shedStart

/-- Settles O20: the assertion by the shed state. In CLEAR it is the shed start of the state whose shed is in force,
which marks a timed start that was due as overtaken. -/
theorem feederWarnAssertionEffect : Obligations.FeederWarnAssertionEffect := by
  unfold Obligations.FeederWarnAssertionEffect
  intro s
  refine ⟨exec_feederWarnAssertion_of_notRunning, fun running releasing => ?_, fun running held => ?_,
    fun running clear => ?_⟩
  · rw [exec_feederWarnAssertion_of_running running, State.warnAsserted_of_releasing (by exact releasing)]
    rfl
  · rw [exec_feederWarnAssertion_of_running running]
    rcases held with liftDue | warned
    · rw [State.warnAsserted_of_liftDue (by exact liftDue)]
      rfl
    · rw [State.warnAsserted_of_warned (by exact warned), ← warned]
      rfl
  · intro feeder branch
    let u := s.withFsc { s.fsc with feederWarn := true, shed := .warned }
    have feederEq : feederEffective s.cfg .warned = feeder := feederEffective_eq _ _
    have branchEq : branchEffective s.cfg = branch := branchEffective_eq _
    have asserted : exec .feederWarnAssertion s = .next u.shedStart := by
      rw [exec_feederWarnAssertion_of_running running, State.warnAsserted_of_clear (by exact clear)]
      rfl
    refine ⟨u.shedStart, asserted, ?_, State.shedStart_windowPlanned (fun _ => rfl) rfl rfl,
      u.shedStart_hbp, u.shedStart_pvt, u.shedStart_filing, u.shedStart_slots, u.shedStart_bkc, u.shedStart_pnl,
      u.shedStart_ocl, u.shedStart_svl, u.shedStart_cfl, u.shedStart_pending, ?_, fun v timer due => ?_⟩
    · rw [← feederEq, ← branchEq]
      exact u.shedStart_fsc
    · rw [← Hdf.boundaryDue_eq]
      rfl
    · refine if_pos ?_
      have overtaken : s.hdf.windowTimer.due windowEnd = true := by rw [timer]; exact decide_eq_true due
      rw [State.shedStart_overtaken]
      exact (Bool.or_eq_true _ _).mpr (.inr overtaken)

end Sys2Proof.Machine

/-! PROOFS. HBP: how a cell is counted and compared, how an attempt begins, and how it is lost or errored (R93 to
R98). -/

namespace Sys2Proof.Machine

/-! ### Counting a cell (R94, R98) -/

section count
variable {h : Hbp} {read : Bool}

/-- R98: one of the first 78 cells is counted, and its value joins those kept. -/
theorem Hbp.countCell_of_kept (kept : h.cells.length = h.cellsReceived) (inside : h.cellsReceived + 1 ≤ 78) :
    h.countCell read = { h with
      path := .inFrame
      cellsReceived := h.cellsReceived + 1
      cells := h.cells ++ [read]
      sender := if h.sender = .arbitrating ∧ 7 ≤ h.cellsReceived + 1 then .sending else h.sender } := by
  have count : min 79 (h.cellsReceived + 1) = h.cellsReceived + 1 := by omega
  have notLast : h.cellsReceived + 1 ≠ 79 := by omega
  have all : h.cells.take h.cellsReceived = h.cells := by rw [← kept, List.take_length]
  simp only [Hbp.countCell, count, notLast, if_false, Hbp.keepCell, if_pos inside, Nat.add_sub_cancel, all]

/-- R98: beyond cell 78 the count stays at 79, and no value is kept. -/
theorem Hbp.countCell_of_beyond (beyond : 79 ≤ h.cellsReceived + 1) :
    h.countCell read = { h with
      path := .inFrame
      cellsReceived := 79
      sender := if h.sender = .arbitrating then .sending else h.sender } := by
  have count : min 79 (h.cellsReceived + 1) = 79 := by omega
  simp [Hbp.countCell, count]

end count

/-! ### Comparing a cell (R94, R95) -/

section compare
variable {h : Hbp} {read : Bool}

theorem Hbp.compare_of_offLine (offLine : h.onLine = false) : h.compare read = h := by
  simp [Hbp.compare, offLine]

theorem Hbp.compare_of_beyond (beyond : 78 < h.cellsReceived) : h.compare read = h := by
  simp [Hbp.compare, beyond]

theorem Hbp.compare_of_same (same : read = h.sentCell) : h.compare read = h := by
  simp [Hbp.compare, same]

/-- R94: a header cell sent as 1 that reads 0 loses the arbitration. -/
theorem Hbp.compare_of_lost (onLine : h.onLine = true) (header : h.inHeader = true) (sent : h.sentCell = true)
    (differs : read = false) : h.compare read = h.loseArbitration := by
  have inside : ¬ 78 < h.cellsReceived := by
    simp only [Hbp.inHeader, Bool.and_eq_true, decide_eq_true_eq] at header
    omega
  simp [Hbp.compare, onLine, inside, header, sent, differs]

/-- R95: any other difference is an error. -/
theorem Hbp.compare_of_errored (onLine : h.onLine = true) (inside : h.cellsReceived ≤ 78)
    (differs : read ≠ h.sentCell) (other : (h.inHeader && h.sentCell) = false) : h.compare read = h.errorAttempt := by
  have notBeyond : ¬ 78 < h.cellsReceived := Nat.not_lt.mpr inside
  simp only [Hbp.compare, onLine, notBeyond, other, beq_eq_false_iff_ne.mpr differs]
  rfl

/-- R94: a difference in a later cell, or in a cell sent as 0, is no lost arbitration. -/
theorem Hbp.noLoss_of_late (other : 7 ≤ h.cellsReceived ∨ h.sentCell = false) :
    (h.inHeader && h.sentCell) = false := by
  rcases other with late | zero
  · have notHeader : ¬ h.cellsReceived ≤ 6 := by omega
    simp [Hbp.inHeader, notHeader]
  · rw [zero, Bool.and_false]

end compare

/-! ### Errored attempts (R95, R97) -/

section errored
variable {h : Hbp}

theorem Hbp.errorAttempt_of_superseded (superseded : h.attemptFrame ≠ .current) : h.errorAttempt = { h with
    sender := .waiting
    attemptFrame := .none
    driven := none
    erroredAttempts := min 65535 (h.erroredAttempts + 1) } := by
  rw [Hbp.errorAttempt, if_neg superseded]
  rfl

theorem Hbp.errorAttempt_of_few (current : h.attemptFrame = .current) (few : h.attemptCount < 15) :
    h.errorAttempt = { h with
      sender := .waiting
      attemptFrame := .none
      driven := none
      erroredAttempts := min 65535 (h.erroredAttempts + 1)
      attemptCount := h.attemptCount + 1 } := by
  have left : ¬ 16 ≤ h.attemptCount + 1 := by omega
  simp only [Hbp.errorAttempt, if_pos current, if_neg left]
  rfl

/-- R95: the sixteenth errored attempt drops the frame. -/
theorem Hbp.errorAttempt_of_sixteenth (current : h.attemptFrame = .current) (many : 15 ≤ h.attemptCount) :
    h.errorAttempt = { h with
      sender := .idle
      attemptFrame := .none
      driven := none
      erroredAttempts := min 65535 (h.erroredAttempts + 1)
      attemptCount := 0
      slot := none
      periodResult := .dropped } := by
  have last : 16 ≤ h.attemptCount + 1 := by omega
  simp only [Hbp.errorAttempt, if_pos current, if_pos last]
  rfl

end errored

/-! ### The edge that begins an attempt (R93) -/

section attempt
variable {s : State} {read : Bool}

theorem exec_fallingEdge (read : Bool) (s : State) :
    exec (.fallingEdge read) s = .next (s.withHbp (s.hbp.edge read)) := rfl

theorem exec_attemptStart_of_waiting (ready : s.hbp.path = .ready) (waiting : s.hbp.sender = .waiting) :
    exec (.attemptStart read) s = exec (.fallingEdge read) s :=
  if_pos ⟨ready, waiting⟩

/-- HBP when the attempt of a waiting frame has counted cell 1. -/
def Hbp.begun (h : Hbp) (read : Bool) : Hbp :=
  { h with
    lineIdle := false
    path := .inFrame
    cellsReceived := 1
    cells := [read]
    sender := .arbitrating
    attemptFrame := .current
    driven := h.slot }

theorem Hbp.edge_of_waiting {h : Hbp} (ready : h.path = .ready) (waiting : h.sender = .waiting)
    (none : h.cellsReceived = 0) (empty : h.cells = []) : h.edge read = (h.begun read).compare read := by
  simp only [Hbp.edge, ready, waiting, if_true]
  rw [Hbp.countCell_of_kept (by simp [Hbp.beginAttempt, none, empty]) (by simp [Hbp.beginAttempt, none])]
  simp [Hbp.begun, Hbp.beginAttempt, none, empty]

/-- R88: cell 1 carries the urgency bit. -/
theorem Hbp.begun_sentCell {h : Hbp} {f : DemandFrame} (slot : h.slot = some f) :
    (h.begun read).sentCell = f.urgency := by
  simp only [Hbp.sentCell, Hbp.begun, slot]
  rfl

end attempt

/-- Settles O30: the attempt has begun with cell 1 counted, and cell 1 is compared with the urgency bit. -/
theorem attemptBegins : Obligations.AttemptBegins := by
  unfold Obligations.AttemptBegins
  intro read f s ready waiting slot none empty h
  have begins : exec (.attemptStart read) s = .next (s.withHbp ((s.hbp.begun read).compare read)) := by
    rw [exec_attemptStart_of_waiting ready waiting, exec_fallingEdge, Hbp.edge_of_waiting ready waiting none empty]
  have sent : (s.hbp.begun read).sentCell = f.urgency := Hbp.begun_sentCell slot
  refine ⟨(exec_attemptStart_of_waiting ready waiting).symm, fun same => ?_, fun one zero => ?_,
    fun zero one few => ?_, fun zero one many => ?_⟩
  · rw [begins, Hbp.compare_of_same (same.trans sent.symm), Hbp.begun, slot]
    rfl
  · rw [begins, Hbp.compare_of_lost rfl rfl (sent.trans one) zero]
    rfl
  all_goals
    have differs : read ≠ (s.hbp.begun read).sentCell := by
      rw [sent, zero, one]
      exact Bool.false_ne_true.symm
    have other : ((s.hbp.begun read).inHeader && (s.hbp.begun read).sentCell) = false := by simp [sent, zero]
    rw [begins, Hbp.compare_of_errored rfl (Nat.le_of_ble_eq_true rfl) differs other]
  · rw [Hbp.errorAttempt_of_few (h := s.hbp.begun read) rfl few]
    rfl
  · rw [Hbp.errorAttempt_of_sixteenth (h := s.hbp.begun read) rfl many]
    rfl

/-! ### A falling edge by the receive path (R93, R98) -/

section edge
variable {h : Hbp} {read : Bool}

theorem Hbp.edge_of_noFrame (path : h.path = .off ∨ h.path = .syncing ∨ h.path = .skipping) :
    h.edge read = { h with lineIdle := false } := by
  rcases path with off | syncing | skipping
  · simp only [Hbp.edge, off]
  · simp only [Hbp.edge, syncing]
  · simp only [Hbp.edge, skipping]

theorem Hbp.edge_of_inFrame (path : h.path = .inFrame) :
    h.edge read = ({ h with lineIdle := false }.countCell read).compare read := by
  simp only [Hbp.edge, path]

theorem Hbp.edge_of_ready (path : h.path = .ready) (idle : h.sender = .idle) :
    h.edge read = ({ h with lineIdle := false }.countCell read).compare read := by
  simp [Hbp.edge, path, idle]

theorem Hbp.onLine_eq_false (sender : h.sender = .idle ∨ h.sender = .waiting) : h.onLine = false := by
  rcases sender with idle | waiting
  · simp only [Hbp.onLine, idle]
  · simp only [Hbp.onLine, waiting]

theorem Hbp.onLine_iff : h.onLine = true ↔ h.sender = .arbitrating ∨ h.sender = .sending := by
  cases sender : h.sender <;> simp [Hbp.onLine, sender]

end edge

/-- Settles O31: the edge counts a cell and compares it, by where the receive path stands; a sender on the line compares
the cell that the edge has just counted. -/
theorem fallingEdgeTakesACell : Obligations.FallingEdgeTakesACell := by
  unfold Obligations.FallingEdgeTakesACell
  intro read s h k g
  refine ⟨fun path => ?_, fun ready idle none empty => ?_, fun path off kept inside => ?_, fun path beyond => ?_,
    fun f path onLine driven kept inside => ?_⟩
  · rw [exec_fallingEdge, Hbp.edge_of_noFrame path]
    rfl
  · have counted : h.countCell read = { g with path := .inFrame } := by
      rw [Hbp.countCell_of_kept (by simp [h, none, empty]) (by simp [h, none])]
      simp [g, h, k, idle]
    have offLine : ({ g with path := .inFrame } : Hbp).onLine = false := Hbp.onLine_eq_false (.inl idle)
    rw [exec_fallingEdge, Hbp.edge_of_ready ready idle, counted, Hbp.compare_of_offLine offLine]
    rfl
  · have counted : h.countCell read = g := by
      rw [Hbp.countCell_of_kept (h := h) kept inside]
      rcases off with idle | waiting
      · simp [g, h, k, path, idle]
      · simp [g, h, k, path, waiting]
    have offLine : g.onLine = false := Hbp.onLine_eq_false off
    rw [exec_fallingEdge, Hbp.edge_of_inFrame path, counted, Hbp.compare_of_offLine offLine]
    rfl
  · rw [exec_fallingEdge, Hbp.edge_of_inFrame path, Hbp.countCell_of_beyond (h := h) beyond,
      Hbp.compare_of_beyond (Nat.lt_succ_self 78), ← path]
    rfl
  · intro sent g1
    have counted : h.countCell read = g1 := by
      rw [Hbp.countCell_of_kept (h := h) kept inside]
      rcases Hbp.onLine_iff.mp onLine with arbitrating | sending
      · simp [g1, g, h, k, path, arbitrating]
      · simp [g1, g, h, k, path, sending]
    have edge : exec (.fallingEdge read) s = .next (s.withHbp (g1.compare read)) := by
      rw [exec_fallingEdge, Hbp.edge_of_inFrame path, ← counted]
    have sentEq : g1.sentCell = sent := by
      simp only [Hbp.sentCell, g1, g, h, driven]
      rfl
    have onLine1 : g1.onLine = true := by
      rw [Hbp.onLine_iff]
      by_cases late : 7 ≤ k
      · exact .inr (if_pos late)
      · rw [show g1.sender = s.hbp.sender from if_neg late]
        exact Hbp.onLine_iff.mp onLine
    refine ⟨fun same => ?_, fun header one zero => ?_, fun differs other => ?_⟩
    · rw [edge, Hbp.compare_of_same (same.trans sentEq.symm)]
      rfl
    · have inHeader : g1.inHeader = true := by simp [Hbp.inHeader, g1, g, k, header]
      rw [edge, Hbp.compare_of_lost onLine1 inHeader (sentEq.trans one) zero]
      rfl
    · have noLoss : (g1.inHeader && g1.sentCell) = false := Hbp.noLoss_of_late (other.imp id sentEq.trans)
      rw [edge, Hbp.compare_of_errored onLine1 inside (sentEq ▸ differs) noLoss]
      rfl

/-! ### The rows that tell how the cell on the line went (R94, R95, R98) -/

section rows
variable {s : State}

theorem Hbp.keepCell_of_inside {h : Hbp} (inside : h.cellsReceived ≤ 78) (read : Bool) :
    h.keepCell read = { h with cells := h.cells.take (h.cellsReceived - 1) ++ [read] } :=
  if_pos inside

theorem exec_arbitrationLost_of_header (arbitrating : s.hbp.sender = .arbitrating) (header : s.hbp.inHeader = true)
    (one : s.hbp.sentCell = true) :
    exec .arbitrationLost s = .next (s.withHbp (s.hbp.keepCell false).loseArbitration) :=
  if_pos ⟨arbitrating, header, one⟩

theorem exec_erroredAttempt_differs_of_onLine (onLine : s.hbp.onLine = true) (inside : s.hbp.cellsReceived ≤ 78)
    (noLoss : (s.hbp.inHeader && s.hbp.sentCell) = false) : exec (.erroredAttempt .differs) s =
      .next (s.withHbp (s.hbp.keepCell (!s.hbp.sentCell)).errorAttempt) := by
  have notBeyond : ¬ 78 < s.hbp.cellsReceived := Nat.not_lt.mpr inside
  simp [exec, execErroredAttempt, onLine, noLoss, notBeyond]

theorem exec_erroredAttempt_framing_of_onLine (onLine : s.hbp.onLine = true) :
    exec (.erroredAttempt .framing) s = .next (s.withHbp { s.hbp with path := .skipping }.errorAttempt) := by
  simp only [exec, execErroredAttempt, if_pos onLine]

theorem exec_framingError_of_inFrame (path : s.hbp.path = .inFrame) : exec .framingError s =
    .next (s.withHbp (if s.hbp.onLine then { s.hbp with path := .skipping }.errorAttempt
      else { s.hbp with path := .skipping })) :=
  if_pos path

end rows

/-- Settles O32: an errored attempt by the frame that it carries, and the three rows by their own tests. -/
theorem lostAndErroredAttempts : Obligations.LostAndErroredAttempts := by
  unfold Obligations.LostAndErroredAttempts
  refine ⟨fun h => ⟨Hbp.errorAttempt_of_superseded, Hbp.errorAttempt_of_few, Hbp.errorAttempt_of_sixteenth⟩,
    fun s => ⟨fun arbitrating first last one => ?_, fun onLine inside other => ?_,
      exec_erroredAttempt_framing_of_onLine, fun path onLine => ?_, fun path offLine => ?_⟩⟩
  · have header : s.hbp.inHeader = true := by simp [Hbp.inHeader, first, last]
    rw [exec_arbitrationLost_of_header arbitrating header one, Hbp.keepCell_of_inside (Nat.le_trans last (by decide))]
    rfl
  · rw [exec_erroredAttempt_differs_of_onLine onLine inside (Hbp.noLoss_of_late other),
      Hbp.keepCell_of_inside inside]
    rfl
  · rw [exec_framingError_of_inFrame path, if_pos onLine]
    rfl
  · rw [exec_framingError_of_inFrame path, if_neg (by simp [offLine])]
    rfl

end Sys2Proof.Machine

/-! PROOFS. HBP and PVT: the frame end of any frame that is not this station's own completed one, and the peer table
that stores it (R91, R98 to R100, R105 to R108). -/

namespace Sys2Proof.Machine

/-! ### The frame end by the receive path (R91, R98 to R100) -/

section frameEnd
variable {s : State}

theorem State.frameEnd_of_noFrame (path : s.hbp.path = .off ∨ s.hbp.path = .ready) :
    s.frameEnd = s.withHbp { s.hbp with lineIdle := true } := by
  rcases path with off | ready
  · simp only [State.frameEnd, State.withHbp_hbp, off]
  · simp only [State.frameEnd, State.withHbp_hbp, ready]

theorem State.frameEnd_of_syncing (path : s.hbp.path = .syncing) :
    s.frameEnd = s.withHbp { s.hbp with lineIdle := true }.toReady := by
  simp only [State.frameEnd, State.withHbp_hbp, path]
  rfl

theorem State.frameEnd_of_skipping (path : s.hbp.path = .skipping) :
    s.frameEnd = s.withHbp { s.hbp with lineIdle := true }.toReady.discard := by
  simp only [State.frameEnd, State.withHbp_hbp, path]
  rfl

/-- A frame of another station is checked. -/
theorem State.frameEnd_of_received (path : s.hbp.path = .inFrame) (offLine : s.hbp.onLine = false) :
    s.frameEnd = (s.withHbp { s.hbp with lineIdle := true }).checkFrame := by
  simp only [State.frameEnd, State.withHbp_hbp, path]
  exact if_neg (ne_true_of_eq_false offLine)

/-- Log 10: an own attempt cut short of its 78 cells is errored, and its frame is checked. -/
theorem State.frameEnd_of_cutShort (path : s.hbp.path = .inFrame) (onLine : s.hbp.onLine = true)
    (short : s.hbp.cellsReceived < 78) :
    s.frameEnd = (s.withHbp { s.hbp with lineIdle := true }.errorAttempt).checkFrame := by
  simp only [State.frameEnd, State.withHbp_hbp, path]
  exact (if_pos onLine).trans (if_neg (Nat.not_le_of_lt short))

end frameEnd

/-- R95: an errored attempt leaves the line, and the frame in the receive path as it is. -/
theorem Hbp.errorAttempt_keeps (h : Hbp) : h.errorAttempt.onLine = false ∧ h.errorAttempt.path = h.path
    ∧ h.errorAttempt.lineIdle = h.lineIdle := by
  by_cases current : h.attemptFrame = .current
  · by_cases few : h.attemptCount < 15
    · rw [Hbp.errorAttempt_of_few current few]
      exact ⟨rfl, rfl, rfl⟩
    · rw [Hbp.errorAttempt_of_sixteenth current (Nat.le_of_not_lt few)]
      exact ⟨rfl, rfl, rfl⟩
  · rw [Hbp.errorAttempt_of_superseded current]
    exact ⟨rfl, rfl, rfl⟩

theorem Hbp.setLineIdle_self {h : Hbp} (idle : h.lineIdle = true) : { h with lineIdle := true } = h := by
  rw [← idle]

/-! ### The two checks of a frame (R99, R100) -/

section check
variable {s : State}

theorem State.checkFrame_of_good (cells : s.hbp.cellsReceived = 78)
    (check : (DemandFrame.ofCells s.hbp.cells).checkWord = checkOfCells s.hbp.cells) : s.checkFrame =
      (s.withPvt (s.pvt.takeFrame s.cfg (DemandFrame.ofCells s.hbp.cells))).withHbp
        { s.hbp.toReady with framesReceived := satInc s.hbp.framesReceived } :=
  if_pos (by simp [Hbp.frameGood, cells, check])

theorem State.checkFrame_of_bad (bad : s.hbp.cellsReceived ≠ 78
    ∨ (DemandFrame.ofCells s.hbp.cells).checkWord ≠ checkOfCells s.hbp.cells) :
    s.checkFrame = s.withHbp s.hbp.toReady.discard :=
  if_neg (by simpa [Hbp.frameGood, imp_iff_not_or] using bad)

end check

/-! ### What PVT does with a frame (R105 to R108) -/

section takeFrame
variable {p : Pvt} {c : Config} {f : DemandFrame}

theorem Pvt.takeFrame_of_own (own : f.station = c.station) :
    p.takeFrame c f = { p with clashes := satInc p.clashes } :=
  if_pos own

/-- R106, R107: a number lies within an enabled global range exactly if it lies between the two ends. -/
theorem stored_iff (c : Config) (n : Nat) :
    (!globalEnabled c || !inRange c.globalBase c.globalLimit n) = false ↔ c.globalBase ≤ n ∧ n ≤ c.globalLimit := by
  simp only [globalEnabled, rangeEnabled, inRange, Bool.or_eq_false_iff, Bool.not_eq_false', Bool.and_eq_true,
    decide_eq_true_eq]
  omega

theorem Pvt.takeFrame_of_outOfRange (other : f.station ≠ c.station)
    (outside : ¬ (c.globalBase ≤ f.station ∧ f.station ≤ c.globalLimit)) :
    p.takeFrame c f = { p with outOfRange := satInc p.outOfRange } := by
  rw [Pvt.takeFrame, if_neg other, if_pos (Bool.eq_true_of_not_eq_false (mt (stored_iff c f.station).mp outside))]

theorem Pvt.takeFrame_of_stored (other : f.station ≠ c.station)
    (inside : c.globalBase ≤ f.station ∧ f.station ≤ c.globalLimit) :
    p.takeFrame c f = { p with peers := storePeer (peerOf c f) p.peers } := by
  rw [Pvt.takeFrame, if_neg other, (stored_iff c f.station).mpr inside]
  rfl

/-- R106: a number lies within an enabled local range exactly if it lies between the two ends. -/
theorem peerOf_eq (c : Config) (f : DemandFrame) : peerOf c f = ⟨f.station, f.demand, min 16 f.free,
    decide (c.localBase ≤ f.station) && decide (f.station ≤ c.localLimit), 0⟩ := by
  have enabled : (localEnabled c && inRange c.localBase c.localLimit f.station)
      = (decide (c.localBase ≤ f.station) && decide (f.station ≤ c.localLimit)) := by
    rw [Bool.eq_iff_iff]
    simp only [localEnabled, rangeEnabled, inRange, Bool.and_eq_true, decide_eq_true_eq]
    omega
  rw [peerOf, enabled]

end takeFrame

/-! ### The peer table (R108) -/

section storePeer
variable {fresh : Peer} {ps : List Peer}

/-- R108: the record of a peer as a frame of its number refreshes it. -/
def Peer.refreshed (p fresh : Peer) : Peer := { p with demand := fresh.demand, free := fresh.free, age := 0 }

/-- Storing a frame leaves the records of the other numbers. -/
theorem mem_storePeer_of_other {q : Peer} (other : q.station ≠ fresh.station) : q ∈ storePeer fresh ps ↔ q ∈ ps := by
  have notFresh : q ≠ fresh := fun same => other (congrArg Peer.station same)
  induction ps with
  | nil => simp [storePeer, notFresh]
  | cons p rest ih =>
    rw [storePeer]
    split
    next => simp [notFresh]
    split
    next same =>
      have notStored : q ≠ p.refreshed fresh := fun stored => other (by rw [stored, same]; rfl)
      have notHead : q ≠ p := fun head => other (by rw [head, same])
      rw [List.mem_cons, List.mem_cons, or_iff_right notHead]
      exact or_iff_right notStored
    next => simp [ih]

/-- The table stays sorted by station number. -/
theorem storePeer_pairwise (sorted : ps.Pairwise fun p q => p.station < q.station) :
    (storePeer fresh ps).Pairwise fun p q => p.station < q.station := by
  induction ps with
  | nil => exact List.pairwise_singleton _ _
  | cons p rest ih =>
    obtain ⟨least, tail⟩ := List.pairwise_cons.mp sorted
    rw [storePeer]
    split
    next below =>
      refine List.pairwise_cons.mpr ⟨fun q member => ?_, sorted⟩
      rcases List.mem_cons.mp member with rfl | later
      · exact below
      · exact below.trans (least q later)
    split
    next => exact List.pairwise_cons.mpr ⟨least, tail⟩
    next notBelow notSame =>
      refine List.pairwise_cons.mpr ⟨fun q member => ?_, ih tail⟩
      by_cases same : q.station = fresh.station
      · omega
      · exact least q ((mem_storePeer_of_other same).mp member)

/-- A number that the table does not hold gets a record of its own. -/
theorem mem_storePeer_of_new (new : ∀ p ∈ ps, p.station ≠ fresh.station) : fresh ∈ storePeer fresh ps := by
  induction ps with
  | nil => exact List.mem_singleton_self _
  | cons p rest ih =>
    obtain ⟨head, tail⟩ := List.forall_mem_cons.mp new
    rw [storePeer, if_neg (Ne.symm head)]
    split
    · exact List.mem_cons_self
    · exact List.mem_cons_of_mem _ (ih tail)

/-- The record of a number that the table holds is refreshed. -/
theorem refreshed_mem_storePeer (sorted : ps.Pairwise fun p q => p.station < q.station) {p : Peer} (member : p ∈ ps)
    (same : p.station = fresh.station) : p.refreshed fresh ∈ storePeer fresh ps := by
  induction ps with
  | nil => exact absurd member List.not_mem_nil
  | cons first rest ih =>
    obtain ⟨least, tail⟩ := List.pairwise_cons.mp sorted
    rw [storePeer]
    rcases List.mem_cons.mp member with rfl | later
    · rw [if_neg (by omega), if_pos same.symm]
      exact List.mem_cons_self
    · have below : first.station < p.station := least p later
      rw [if_neg (by omega), if_neg (by omega)]
      exact List.mem_cons_of_mem _ (ih tail later)

end storePeer

/-- Settles O34: the frame end by the receive path and the two checks, what PVT does by the frame's number, and the
table record by record. -/
theorem frameEndHandsOnOrDiscards : Obligations.FrameEndHandsOnOrDiscards := by
  unfold Obligations.FrameEndHandsOnOrDiscards
  refine ⟨fun s => ?_, fun fresh ps sorted => ⟨storePeer_pairwise sorted, fun q => mem_storePeer_of_other,
    mem_storePeer_of_new, fun p => refreshed_mem_storePeer sorted⟩⟩
  intro h f
  refine ⟨fun path => ?_, fun path => ?_, fun path => ?_, fun path offLine bad => ?_,
    fun path offLine cells check => ?_, fun path onLine short => ?_⟩
  · rw [exec_frameEnd, State.frameEnd_of_noFrame path]
    rfl
  · rw [exec_frameEnd, State.frameEnd_of_syncing path]
    rfl
  · rw [exec_frameEnd, State.frameEnd_of_skipping path]
    rfl
  · rw [exec_frameEnd, State.frameEnd_of_received path offLine, State.checkFrame_of_bad (by exact bad)]
    rfl
  · intro h1 stored
    have handed : exec .frameEnd s = .next ((s.withPvt (s.pvt.takeFrame s.cfg f)).withHbp h1) := by
      rw [exec_frameEnd, State.frameEnd_of_received path offLine,
        State.checkFrame_of_good (by exact cells) (by exact check)]
      rfl
    rw [handed]
    refine ⟨fun own => ?_, fun other outside => ?_, fun other inside => ?_⟩
    · rw [Pvt.takeFrame_of_own own]
      rfl
    · rw [Pvt.takeFrame_of_outOfRange other outside]
      rfl
    · rw [Pvt.takeFrame_of_stored other inside, peerOf_eq]
      rfl
  · obtain ⟨offLine, pathKept, idle⟩ := Hbp.errorAttempt_keeps { s.hbp with lineIdle := true }
    rw [exec_frameEnd, State.frameEnd_of_cutShort path onLine short, exec_frameEnd,
      State.frameEnd_of_received (pathKept.trans path) offLine, Hbp.setLineIdle_self idle]
    rfl

end Sys2Proof.Machine

/-! PROOFS. The receivers of the two serial lines byte by byte, and the end of a service response and of the gap between
two bytes (R157, R158, R176 to R178). -/

namespace Sys2Proof.Machine

/-! ### The panel receiver (R158) -/

section panel
variable {s : State} {b : Byte} {framingError : Bool}

theorem exec_panelByteReceived (b : Byte) (framingError : Bool) (s : State) :
    exec (.panelByteReceived b framingError) s = .next (s.panelByte b framingError) := rfl

theorem State.panelByte_of_sync (hunting : s.pnl.receiver = .hunting) (sync : b = syncByte) :
    s.panelByte b false = s.withPnl { s.pnl with receiver := .length, gapTimer := some 0, kept := [] } := by
  simp [State.panelByte, hunting, sync]

theorem State.panelByte_of_noSync (hunting : s.pnl.receiver = .hunting)
    (passed : framingError = true ∨ b ≠ syncByte) : s.panelByte b framingError = s := by
  rcases passed with rfl | other
  · simp [State.panelByte, hunting]
  · simp [State.panelByte, hunting, other]

theorem State.panelByte_of_length (awaits : s.pnl.receiver = .length) (least : 1 ≤ b.toNat) (most : b.toNat ≤ 5) :
    s.panelByte b false = s.overtakePanelGap.withPnl
      { s.pnl with receiver := .body, expected := b.toNat + 1, gapTimer := some 0, kept := [b] } := by
  have notZero : (b.toNat == 0) = false := beq_eq_false_iff_ne.mpr (by omega)
  have notMore : ¬ 5 < b.toNat := Nat.not_lt.mpr most
  simp only [State.panelByte, awaits, notZero, notMore]
  rfl

theorem State.panelByte_of_badLength (awaits : s.pnl.receiver = .length)
    (bad : framingError = true ∨ b.toNat = 0 ∨ 5 < b.toNat) :
    s.panelByte b framingError = s.takePanelFault .noType := by
  have abandoned : (framingError || b.toNat == 0 || decide (5 < b.toNat)) = true := by
    simpa [or_assoc] using bad
  simp only [State.panelByte, awaits, abandoned, if_true]

theorem State.panelByte_of_body (receives : s.pnl.receiver = .body) (more : 2 ≤ s.pnl.expected) :
    s.panelByte b false = s.overtakePanelGap.withPnl
      { s.pnl with expected := s.pnl.expected - 1, gapTimer := some 0, kept := s.pnl.kept ++ [b] } := by
  have notLast : ¬ s.pnl.expected ≤ 1 := by omega
  simp only [State.panelByte, receives, notLast, Bool.false_eq_true, if_false]

theorem State.panelByte_of_lastByte (receives : s.pnl.receiver = .body) (last : s.pnl.expected = 1) :
    s.panelByte b false = s.takePanelBytes (s.pnl.kept ++ [b]) := by
  simp only [State.panelByte, receives, last, Bool.false_eq_true, if_false, Nat.le_refl, if_true]

theorem State.panelByte_of_framingError (receives : s.pnl.receiver = .body) :
    s.panelByte b true = s.takePanelFault (abandonedPanel s.pnl.kept) := by
  simp only [State.panelByte, receives, if_true]

end panel

/-- Settles O41: the byte by where the receiver stands. -/
theorem panelReceiverTakesBytes : Obligations.PanelReceiverTakesBytes := by
  unfold Obligations.PanelReceiverTakesBytes
  intro b s overtaken
  refine ⟨fun hunting sync => ?_, fun hunting other => ?_, fun hunting => ?_, fun awaits least most => ?_,
    fun awaits bad => ?_, fun awaits => ?_, fun receives more => ?_, fun receives last => ⟨fun m judged => ?_,
      fun f judged => ?_⟩, fun receives short => ?_, fun len t rest receives kept => ?_⟩
  all_goals rw [exec_panelByteReceived]
  · rw [State.panelByte_of_sync hunting sync]
    rfl
  · rw [State.panelByte_of_noSync hunting (.inr other)]
  · rw [State.panelByte_of_noSync hunting (.inl rfl)]
  · rw [State.panelByte_of_length awaits least most]
    rfl
  · rw [State.panelByte_of_badLength awaits (.inr bad), exec_panelBadMessage]
  · rw [State.panelByte_of_badLength awaits (.inl rfl), exec_panelBadMessage]
  · rw [State.panelByte_of_body receives more]
    rfl
  · rw [State.panelByte_of_lastByte receives last, State.takePanelBytes, judged, exec_panelRow]
  · rw [State.panelByte_of_lastByte receives last, State.takePanelBytes, judged, exec_panelBadMessage]
  · rw [State.panelByte_of_framingError receives, abandonedPanel_of_short short, exec_panelBadMessage]
  · rw [State.panelByte_of_framingError receives, kept, exec_panelBadMessage]
    rfl

/-! ### The service receiver (R177) -/

section service
variable {s : State} {b : Byte} {framingError : Bool}

theorem State.serviceByte_of_sync (hunting : s.svl.receiver = .hunting) (sync : b = syncByte) :
    s.serviceByte b false = s.withSvl { s.svl with receiver := .length, gapTimer := some 0, kept := [] } := by
  simp [State.serviceByte, hunting, sync]

theorem State.serviceByte_of_noSync (hunting : s.svl.receiver = .hunting)
    (passed : framingError = true ∨ b ≠ syncByte) : s.serviceByte b framingError = s := by
  rcases passed with rfl | other
  · simp [State.serviceByte, hunting]
  · simp [State.serviceByte, hunting, other]

theorem State.serviceByte_of_length (awaits : s.svl.receiver = .length) (least : 1 ≤ b.toNat) (most : b.toNat ≤ 39) :
    s.serviceByte b false = s.overtakeServiceGap.withSvl
      { s.svl with receiver := .body, expected := b.toNat + 1, gapTimer := some 0, kept := [b] } := by
  have notZero : (b.toNat == 0) = false := beq_eq_false_iff_ne.mpr (by omega)
  have notMore : ¬ 39 < b.toNat := Nat.not_lt.mpr most
  simp only [State.serviceByte, awaits, notZero, notMore]
  rfl

theorem State.serviceByte_of_badLength (awaits : s.svl.receiver = .length)
    (bad : framingError = true ∨ b.toNat = 0 ∨ 39 < b.toNat) :
    s.serviceByte b framingError = s.serveFault .noCode := by
  have abandoned : (framingError || b.toNat == 0 || decide (39 < b.toNat)) = true := by
    simpa [or_assoc] using bad
  simp only [State.serviceByte, awaits, abandoned, if_true]

theorem State.serviceByte_of_body (receives : s.svl.receiver = .body) (more : 2 ≤ s.svl.expected) :
    s.serviceByte b false = s.overtakeServiceGap.withSvl
      { s.svl with expected := s.svl.expected - 1, gapTimer := some 0, kept := s.svl.kept ++ [b] } := by
  have notLast : ¬ s.svl.expected ≤ 1 := by omega
  simp only [State.serviceByte, receives, notLast, Bool.false_eq_true, if_false]

theorem State.serviceByte_of_lastByte (receives : s.svl.receiver = .body) (last : s.svl.expected = 1) :
    s.serviceByte b false = s.serveBytes (s.svl.kept ++ [b]) := by
  simp only [State.serviceByte, receives, last, Bool.false_eq_true, if_false, Nat.le_refl, if_true]

theorem State.serviceByte_of_framingError (receives : s.svl.receiver = .body) :
    s.serviceByte b true = s.serveFault (abandonedService s.svl.kept) := by
  simp only [State.serviceByte, receives, if_true]

end service

theorem exec_serviceByteReceived (b : Byte) (framingError : Bool) (trays : Lines) (s : State) :
    exec (.serviceByteReceived b framingError trays) s = .next ((s.sampleTrays trays).serviceByte b framingError) := rfl

theorem exec_badFrame (f : FrameFault) (s : State) : exec (.badFrame f) s = .next (s.serveFault f) := rfl

/-- R177: a code byte that was never received is echoed as code 0. -/
theorem abandonedService_of_short {kept : List Byte} (short : kept.length < 2) : abandonedService kept = .noCode := by
  have absent : codeByte kept = none := List.getElem?_eq_none (Nat.le_of_lt_succ short)
  rw [abandonedService, absent]

/-- R8: tray levels that have been taken are not changed by taking them again. -/
theorem State.sampleTrays_again (s : State) (trays : Lines) :
    (s.sampleTrays trays).sampleTrays trays = s.sampleTrays trays := by
  have records : ((s.sampleTrays trays).sampleTrays trays).lockers = (s.sampleTrays trays).lockers :=
    State.lockers_ext fun n => by simp only [State.sampleTrays_locker]
  exact congrArg (fun lockers => { s.sampleTrays trays with lockers := lockers }) records

theorem State.sampleTrays_atArrival (s : State) (trays : Lines) (c : ServiceCmd) :
    (s.sampleTrays trays).atArrival trays c = s.sampleTrays trays := by
  cases c with
  | queryOrder | queryLocker | showLocker => exact s.sampleTrays_again trays
  | book | load | abortLoad | cancel | queryBank | fetch | release | hideLocker | staffOpen => rfl

/-- Settles O50: the byte by where the receiver stands, the tray levels taken first. -/
theorem serviceReceiverTakesBytes : Obligations.ServiceReceiverTakesBytes := by
  unfold Obligations.ServiceReceiverTakesBytes
  intro b trays s q overtaken
  refine ⟨fun hunting sync => ?_, fun hunting other => ?_, fun hunting => ?_, fun awaits least most => ?_,
    fun awaits bad => ?_, fun awaits => ?_, fun receives more => ?_, fun receives last => ⟨fun c judged => ?_,
      fun f judged => ?_⟩, fun receives short => ?_, fun len c rest receives kept => ?_⟩
  all_goals rw [exec_serviceByteReceived]
  · rw [State.serviceByte_of_sync (s := q) hunting sync]
    rfl
  · rw [State.serviceByte_of_noSync (s := q) hunting (.inr other)]
  · rw [State.serviceByte_of_noSync (s := q) hunting (.inl rfl)]
  · rw [State.serviceByte_of_length (s := q) awaits least most]
    rfl
  · rw [State.serviceByte_of_badLength (s := q) awaits (.inr bad), exec_badFrame]
  · rw [State.serviceByte_of_badLength (s := q) awaits (.inl rfl), exec_badFrame]
  · rw [State.serviceByte_of_body (s := q) receives more]
    rfl
  · rw [State.serviceByte_of_lastByte (s := q) receives last, State.serveBytes, State.sampleTrays_svl, judged,
      exec_serviceRow, State.sampleTrays_atArrival]
  · rw [State.serviceByte_of_lastByte (s := q) receives last, State.serveBytes, State.sampleTrays_svl, judged,
      exec_badFrame]
  · rw [State.serviceByte_of_framingError (s := q) receives, State.sampleTrays_svl, abandonedService_of_short short,
      exec_badFrame]
  · rw [State.serviceByte_of_framingError (s := q) receives, State.sampleTrays_svl, kept, exec_badFrame]
    rfl

/-! ### Faulty frames, discarded frames, the end of a response and the gap timer (R176 to R178) -/

section response
variable {s : State}

/-- R177: a faulty frame that arrives with no command in progress is answered with its code echoed. -/
theorem exec_badFrame_of_idle (f : FrameFault) (idle : s.svl.inProgress = none) :
    exec (.badFrame f) s = .next (s.answered (FrameFault.echo f) (FrameFault.answer f) []) := by
  rw [exec_badFrame, State.serveFault, State.serviceArrival_idle _ _ idle]
  rfl

/-- R178: a frame that arrives while a command is in progress is discarded. -/
theorem State.serviceArrival_of_busy (judge : State → State) (busy : s.svl.inProgress ≠ none) :
    s.serviceArrival judge = s.frameDropped := by
  obtain ⟨r, sends⟩ := Option.ne_none_iff_exists'.mp busy
  exact s.serviceArrival_busy judge sends

theorem Svl.responseEnd_of_noRate {v : Svl} (busy : v.inProgress ≠ none) (rate : v.pendingRate = none) :
    v.responseEnd = { v with inProgress := none } := by
  obtain ⟨_, sends⟩ := Option.ne_none_iff_exists'.mp busy
  simp only [Svl.responseEnd, sends, rate]

theorem Svl.responseEnd_of_rate {v : Svl} {r : LineRate} (busy : v.inProgress ≠ none) (rate : v.pendingRate = some r) :
    v.responseEnd = { v with inProgress := none }.changeRate r := by
  obtain ⟨_, sends⟩ := Option.ne_none_iff_exists'.mp busy
  simp only [Svl.responseEnd, sends, rate]

theorem exec_gapTimerExpiry_of_due {v : Nat} (timer : s.svl.gapTimer = some v) (due : gapEnd ≤ v)
    (standing : s.overtaken.serviceGap = false) : exec .gapTimerExpiry s = .next s.gapExpired := by
  simp only [exec, execGapTimerExpiry, standing, timer, s.onExpiry_atEnd due, Bool.false_eq_true, if_false]

theorem State.gapExpired_of_length (awaits : s.svl.receiver = .length) : s.gapExpired = s.serveFault .noCode := by
  simp only [State.gapExpired, awaits]

theorem State.gapExpired_of_body (receives : s.svl.receiver = .body) :
    s.gapExpired = s.serveFault (abandonedService s.svl.kept) := by
  simp only [State.gapExpired, receives]

end response

/-- Settles O49: a frame by whether a command is in progress, the end of a response by the rate that waits for it, and
the gap timer by where the receiver stands. -/
theorem serviceFramesAndTimers : Obligations.ServiceFramesAndTimers := by
  unfold Obligations.ServiceFramesAndTimers
  intro s
  refine ⟨fun idle => ?_, fun busy => ⟨?_, fun f => ?_, fun c trays => ?_, fun rate => ?_, fun r rate => ?_⟩,
    fun v timer due standing => ?_⟩
  · have answer (f : FrameFault) := exec_badFrame_of_idle f idle
    exact ⟨answer _, fun c => ⟨answer _, answer _, answer _, answer _⟩⟩
  · obtain ⟨r, sends⟩ := Option.ne_none_iff_exists'.mp busy
    simp only [exec, execFrameDiscarded, sends]
    rfl
  · rw [exec_badFrame, State.serveFault, State.serviceArrival_of_busy _ busy]
  · rw [exec_serviceRow, State.serve, State.serviceArrival_of_busy _ (by simpa using busy)]
  · exact congrArg (fun x => Host.Outcome.next (s.withSvl x)) (Svl.responseEnd_of_noRate busy rate)
  · exact congrArg (fun x => Host.Outcome.next (s.withSvl x)) (Svl.responseEnd_of_rate busy rate)
  · rw [exec_gapTimerExpiry_of_due timer due standing]
    refine ⟨fun awaits => ?_, fun receives short => ?_, fun len c rest receives kept => ?_⟩
    · rw [State.gapExpired_of_length awaits, exec_badFrame]
    · rw [State.gapExpired_of_body receives, abandonedService_of_short short, exec_badFrame]
    · rw [State.gapExpired_of_body receives, kept, exec_badFrame]
      rfl

end Sys2Proof.Machine

/-! PROOFS. The reports of QUERY-BANK, QUERY-LOCKER and QUERY-ORDER and the record of FETCH, byte by byte, and the
answers that carry them (R155, R172, R175, R180, R181). -/

namespace Sys2Proof.Machine

/-! ### The numbers that stand for names (R175, R180, R181, R184) -/

theorem Station.number_eq_idxOf (st : Station) :
    st.number = ([.starting, .listening, .joined, .isolated, .halted] : List Station).idxOf st := by
  cases st <;> rfl

theorem FaultReason.number_eq_idxOf (r : FaultReason) : r.number = ([.noMemory, .check, .station, .heater, .overtemp,
    .margin, .shed, .staff, .globalRange, .localRange] : List FaultReason).idxOf r + 1 := by
  cases r <;> rfl

theorem LockerState.number_eq_idxOf (st : LockerState) : st.number = ([.out, .free, .booked, .loading, .holding,
    .opened, .lockout, .clearing, .filing] : List LockerState).idxOf st := by
  cases st <;> rfl

theorem Indicator.number_eq_idxOf (i : Indicator) :
    i.number = ([.off, .steady, .slow, .fast] : List Indicator).idxOf i := by
  cases i <;> rfl

theorem Cause.number_eq_idxOf (c : Cause) : c.number = ([.expired, .cold, .sensor, .tamper, .cancelled, .foreign,
    .restart] : List Cause).idxOf c + 1 := by
  cases c <;> rfl

theorem HeatClass.number_eq_idxOf (c : HeatClass) :
    c.number = ([.none, .class1, .class2, .class3] : List HeatClass).idxOf c := by
  cases c <;> rfl

theorem BookingEnd.number_eq_idxOf (e : BookingEnd) : e.number = ([.collected, .expired, .cold, .sensor, .tamper,
    .cancelled, .voided] : List BookingEnd).idxOf e + 1 := by
  cases e <;> rfl

/-! ### The bank report (R180) -/

theorem faultNumber_eq (f : Option FaultReason) : faultNumber f = match f with
    | none => 0
    | some r => ([.noMemory, .check, .station, .heater, .overtemp, .margin, .shed, .staff, .globalRange,
        .localRange] : List FaultReason).idxOf r + 1 := by
  cases f with
  | none => rfl
  | some r => exact r.number_eq_idxOf

theorem Shed.inForce_toNat (shed : Shed) : shed.inForce.toNat = if shed = .clear then 0 else 1 := by
  cases shed <;> rfl

/-! ### The flags of a locker report (R181) -/

/-- A bit of a flags byte as its weight. -/
theorem mul_toNat_eq_ite {p : Prop} [Decidable p] {b : Bool} (bit : b = true ↔ p) (w : Nat) :
    w * b.toNat = if p then w else 0 := by
  cases b with
  | false => rw [if_neg (mt bit.mpr Bool.false_ne_true), Bool.toNat_false, Nat.mul_zero]
  | true => rw [if_pos (bit.mp rfl), Bool.toNat_true, Nat.mul_one]

theorem Locker.packBits_flagsA (l : Locker) : packBits l.flagsA = l.hidden.toNat + 2 * l.doorShut.toNat
    + 4 * l.trayPresent.toNat + (if l.latch = .released then 8 else 0) + 16 * l.loadedCold.toNat
    + 32 * l.recordPending.toNat + 64 * l.ajar.toNat + 128 * l.tamper.toNat := by
  rw [← mul_toNat_eq_ite (b := l.latch == .released) beq_iff_eq]
  simp only [Locker.flagsA, packBits]
  omega

theorem Locker.holdReported_iff (l : Locker) : l.holdReported = true ↔ (l.state = .holding ∨ l.state = .opened)
    ∨ (l.state = .lockout ∨ l.state = .clearing ∨ l.state = .filing) ∧ l.orderRef.isSome = true := by
  cases state : l.state <;> simp [Locker.holdReported, state]

section reported
variable {reported booked holds : Prop} [Decidable reported] [Decidable booked] [Decidable holds]

theorem State.packBits_flagsB (s : State) (n : LockerNo) [Decidable (reported ∧ (s.locker n).overheat = true)]
    (tells : (s.locker n).holdReported = true ↔ reported) : packBits (s.flagsB n) = (s.locker n).heaterOn.toNat
      + 2 * (s.locker n).call.toNat + (if s.pnl.claim = some n then 4 else 0)
      + (if s.ready (s.locker n) = true then 8 else 0)
      + (if reported ∧ (s.locker n).overheat = true then 16 else 0) + (if reported then 32 else 0) := by
  rw [← mul_toNat_eq_ite (b := s.pnl.claim == some n) (by simp), ← mul_toNat_eq_ite (b := s.ready (s.locker n)) Iff.rfl,
    ← mul_toNat_eq_ite (b := (s.locker n).holdReported && (s.locker n).overheat) (by simp [tells]),
    ← mul_toNat_eq_ite tells]
  simp only [State.flagsB, packBits]
  omega

/-! ### The profile bytes and the hold fields (R65, R181) -/

theorem State.profileBytes_eq (s : State) (l : Locker) (isBooked : booked ↔ l.state = .booked ∨ l.state = .loading)
    (isHolding : holds ↔ l.state = .holding ∨ l.state = .opened) : s.profileBytes l =
      if booked then [byte1 (setpointOf (s.profileOf l) 0), 0, 0, 0, 0]
      else if holds then
        [byte1 (setpointOf (s.profileOf l) (activeSegment (s.profileOf l) l.holdElapsed)),
          byte1 ((activeSegment (s.profileOf l) l.holdElapsed).val + 1), byte1 (floorOf (s.profileOf l))]
        ++ bytes2 (60 * (s.profileOf l).holdLimit)
      else [0, 0, 0, 0, 0] := by
  cases state : l.state with
  | booked | loading =>
    rw [if_pos (by simp [isBooked, state])]
    simp only [State.profileBytes, state, preheatSetpoint]
  | holding | opened =>
    rw [if_neg (by simp [isBooked, state]), if_pos (by simp [isHolding, state]), Nat.mul_comm]
    simp only [State.profileBytes, state, activeSetpoint, holdLimitOf]
  | out | free | lockout | clearing | filing =>
    rw [if_neg (by simp [isBooked, state]), if_neg (by simp [isHolding, state])]
    simp only [State.profileBytes, state]

theorem Locker.holdBytes_eq (l : Locker) (tells : l.holdReported = true ↔ reported) : l.holdBytes =
    if reported then bytes2 l.holdElapsed ++ [byte1 (minimumByte l.minReading)] ++ bytes2 l.belowRun
      ++ bytes2 l.belowTotal ++ bytes2 l.belowLongest ++ bytes2 l.faultRun
    else [0, 0, 255, 0, 0, 0, 0, 0, 0, 0, 0] := by
  by_cases told : reported
  · rw [Locker.holdBytes, if_pos (tells.mpr told), if_pos told]
  · rw [Locker.holdBytes, if_neg (mt tells.mp told), if_neg told]

end reported

/-! ### The lengths of the reports -/

@[simp] theorem bytes2_length (n : Nat) : (bytes2 n).length = 2 := rfl

theorem State.bankReport_length (s : State) : s.bankReport.length = 23 := by
  simp [State.bankReport]

theorem State.profileBytes_length (s : State) (l : Locker) : (s.profileBytes l).length = 5 := by
  unfold State.profileBytes
  cases l.state <;> rfl

theorem Locker.holdBytes_length (l : Locker) : l.holdBytes.length = 11 := by
  unfold Locker.holdBytes
  split <;> rfl

theorem State.lockerReport_length (s : State) (n : LockerNo) (code : Option Code) :
    (s.lockerReport n code).length = 38 := by
  simp [State.lockerReport, State.profileBytes_length, Locker.holdBytes_length, split3, split4]

/-! ### The outcome record of FETCH (R175) -/

theorem OutcomeRecord.packBits_flagBits (r : OutcomeRecord) : packBits r.flagBits = r.flags.loadedCold.toNat
    + 2 * r.flags.collectedLate.toNat + 4 * r.flags.collectedCold.toNat + 8 * r.flags.overheated.toNat
    + 128 * r.stats.isSome.toNat := by
  simp only [OutcomeRecord.flagBits, packBits, Bool.toNat_false]
  omega

/-! ### Commands that only report -/

section report
variable {s : State}

/-- R178, R179: a command that changes nothing is answered, where its answer does not go by the service line. -/
theorem State.serve_of_report {c : ServiceCmd} {a : Answer} (running : s.running = true)
    (idle : s.svl.inProgress = none) (report : ∀ x, (s.withSvl x).runCommand c = (s.withSvl x, a)) :
    s.serve c = s.answered c.code a.code a.fields :=
  State.serve_of_idle running idle (report _) rfl

theorem State.serve_queryBank (running : s.running = true) (idle : s.svl.inProgress = none) :
    s.serve .queryBank = s.answered 7 .ok s.bankReport :=
  State.serve_of_report (a := ⟨.ok, s.bankReport⟩) running idle fun _ => rfl

theorem State.serve_fetch (running : s.running = true) (idle : s.svl.inProgress = none) :
    s.serve .fetch = s.answered 8 s.fetch.code s.fetch.fields :=
  State.serve_of_report running idle fun _ => rfl

theorem State.serve_queryLocker (b : Byte) (running : s.running = true) (idle : s.svl.inProgress = none) :
    s.serve (.queryLocker b) = s.answered 6 (s.queryLocker b).code (s.queryLocker b).fields :=
  State.serve_of_report running idle fun _ => rfl

theorem State.serve_queryOrder (ref : OrderRef) (running : s.running = true) (idle : s.svl.inProgress = none) :
    s.serve (.queryOrder ref) = s.answered 5 (s.queryOrder ref).code (s.queryOrder ref).fields :=
  State.serve_of_report running idle fun _ => rfl

/-- R8: the tray levels have no part in who holds a ref. -/
theorem State.sampleTrays_holderOf (s : State) (trays : Lines) (ref : OrderRef) :
    (s.sampleTrays trays).holderOf ref = s.holderOf ref := by
  simp only [State.holderOf, State.sampleTrays_locker]

theorem State.queryOrder_of_held {ref : OrderRef} {n : LockerNo} (holder : s.holderOf ref = some n) :
    s.queryOrder ref = ⟨.ok, s.lockerReport n none⟩ := by
  simp only [State.queryOrder, holder]

theorem State.queryOrder_of_filed {ref : OrderRef} (unheld : s.holderOf ref = none)
    (filed : ∃ r ∈ s.ocl.records, r.ref = ref) : s.queryOrder ref = .plain .filed := by
  have inOcl : s.inOcl ref = true := by simpa [State.inOcl] using filed
  simp only [State.queryOrder, unheld, inOcl, if_true]

theorem State.queryOrder_of_unknown {ref : OrderRef} (unheld : s.holderOf ref = none)
    (unfiled : ∀ r ∈ s.ocl.records, r.ref ≠ ref) : s.queryOrder ref = .plain .notFound := by
  have inOcl : s.inOcl ref = false := by simpa [State.inOcl] using unfiled
  simp only [State.queryOrder, unheld, inOcl, Bool.false_eq_true, if_false]

theorem State.queryLocker_of_toNat {b : Byte} {n : LockerNo} (names : b.toNat = n.val) :
    s.queryLocker b = ⟨.ok, s.lockerReport n (s.locker n).pickupCode⟩ := by
  simp only [State.queryLocker, lockerOfByte_of_toNat names]

theorem State.queryLocker_of_ge {b : Byte} (beyond : 16 ≤ b.toNat) : s.queryLocker b = .plain .outOfRange := by
  simp only [State.queryLocker, lockerOfByte_of_ge beyond]

theorem State.fetch_of_nil (empty : s.ocl.records = []) : s.fetch = .plain .empty := by
  simp only [State.fetch, empty]

theorem State.fetch_of_cons {r : OutcomeRecord} {rest : List OutcomeRecord} (records : s.ocl.records = r :: rest) :
    s.fetch = ⟨.ok, r.bytes⟩ := by
  simp only [State.fetch, records]

end report

/-- Settles O46: each command is answered with its report, for its answer does not go by the service line,
and each report is taken byte by byte. -/
theorem queriesAndFetchOnlyReport : Obligations.QueriesAndFetchOnlyReport := by
  unfold Obligations.QueriesAndFetchOnlyReport
  intro s trays running idle q byte word ref4 code3 outcome cause seconds
  have locker (n : LockerNo) : q.locker n = { s.locker n with trayPresent := trays.getLsbD n.val } :=
    s.sampleTrays_locker trays n
  have stillRunning : q.running = true := (s.sampleTrays_running trays).trans running
  have queryLocker (b : Byte) : exec (.queryLocker b trays) s =
      .next (q.answered 6 (q.queryLocker b).code (q.queryLocker b).fields) :=
    congrArg _ (State.serve_queryLocker b stillRunning idle)
  have queryOrder (ref : OrderRef) : exec (.queryOrder ref trays) s =
      .next (q.answered 5 (q.queryOrder ref).code (q.queryOrder ref).fields) :=
    congrArg _ (State.serve_queryOrder ref stillRunning idle)
  have fetch : exec .fetch s = .next (s.answered 8 s.fetch.code s.fetch.fields) :=
    congrArg _ (State.serve_fetch running idle)
  refine ⟨⟨locker, rfl⟩, ⟨congrArg _ (State.serve_queryBank running idle), s.bankReport_length⟩, ?_, fun n code => ?_,
    fun b n names => ?_, fun b beyond => ?_, q.lockerReport_length, fun ref n holder => ?_,
    fun ref unheld filed => ?_, fun ref unheld unfiled => ?_, fun empty => ?_, fun r rest records => ?_⟩
  · rw [State.bankReport, Station.number_eq_idxOf, faultNumber_eq, Shed.inForce_toNat]
    rfl
  · have causes (c : Option Cause) : causeNumber c = cause c := by
      cases c with
      | none => rfl
      | some c => exact c.number_eq_idxOf
    have timers (t : Timer) : timerByte t = seconds t := by cases t <;> rfl
    have claim : s.pnl = q.pnl := (s.sampleTrays_pnl trays).symm
    have chain : s.bkc = q.bkc := (s.sampleTrays_bkc trays).symm
    rw [claim, chain]
    -- From here on the report is that of any state, and the tray levels play no part.
    clear_value q
    intro l p k booked holds reported
    have record : q.locker n = l := rfl
    rw [State.lockerReport, record, Locker.packBits_flagsA, q.packBits_flagsB n (Locker.holdReported_iff _), record,
      q.profileBytes_eq l (booked := booked) (holds := holds) Iff.rfl Iff.rfl,
      l.holdBytes_eq (reported := reported) l.holdReported_iff, LockerState.number_eq_idxOf,
      Indicator.number_eq_idxOf, HeatClass.number_eq_idxOf, causes, causes, timers, timers]
    clear_value l
    refine congrArg₂ (· ++ ·) (congrArg₂ (· ++ ·) (congrArg₂ (· ++ ·) rfl ?_) rfl) ?_
    · refine congrArg₂ List.cons ?_ (congrArg₂ List.cons (congrArg byte1 ?_)
        (congrArg₂ List.cons rfl (congrArg₂ List.cons rfl (congrArg₂ List.cons ?_ rfl))))
      · cases l.profile <;> rfl
      · rw [chainPosition]
        cases q.bkc.entries.findIdx? fun e => some e.ref == l.orderRef <;> rfl
      · cases l.reading <;> rfl
    · by_cases told : reported
      · rw [if_pos told, if_pos told]
        cases l.minReading <;> rfl
      · rw [if_neg told, if_neg told]
  · rw [queryLocker, State.queryLocker_of_toNat names, locker]
  · rw [queryLocker, State.queryLocker_of_ge beyond]
    rfl
  · rw [queryOrder, State.queryOrder_of_held ((s.sampleTrays_holderOf trays ref).trans holder)]
  · rw [queryOrder, State.queryOrder_of_filed ((s.sampleTrays_holderOf trays ref).trans unheld) filed]
    rfl
  · rw [queryOrder, State.queryOrder_of_unknown ((s.sampleTrays_holderOf trays ref).trans unheld) unfiled]
    rfl
  · rw [fetch, State.fetch_of_nil empty]
    rfl
  · intro flags
    rw [fetch, State.fetch_of_cons records, OutcomeRecord.bytes, r.packBits_flagBits, r.outcome.number_eq_idxOf]
    refine ⟨fun absent => ?_, fun h present => ?_⟩
    · rw [absent]
      rfl
    · obtain ⟨holdSeconds, minReading, belowTotal, belowLongest⟩ := h
      rw [present, Option.isSome_some, Bool.toNat_true, Nat.mul_one]
      cases minReading <;> rfl

end Sys2Proof.Machine

/-! PROOFS. LKT at its own events: what the end of a booking, a turn of the chain, a door and a timer do to a locker, by
its state (R8 to R30, R147 to R149). -/

namespace Sys2Proof.Machine

/-! ### Records written twice -/

/-- A record that is brought to its pattern is there already. -/
@[simp] theorem Locker.refresh_refresh (l : Locker) : l.refresh.refresh = l.refresh := Locker.refresh_self rfl

/-- The second of two writes of one record stands. -/
@[simp] theorem State.setLocker_putLocker (s : State) (n : LockerNo) (l m : Locker) :
    (s.setLocker n l).putLocker n m = s.putLocker n m :=
  s.setLocker_setLocker n l m.refresh

@[simp] theorem State.putLocker_putLocker (s : State) (n : LockerNo) (l m : Locker) :
    (s.putLocker n l).putLocker n m = s.putLocker n m :=
  s.setLocker_setLocker n l.refresh m.refresh

/-- A record at its pattern is put as it is set. -/
theorem State.putLocker_of_refreshed (s : State) (n : LockerNo) {l : Locker} (refreshed : l.refresh = l) :
    s.putLocker n l = s.setLocker n l := by
  rw [State.putLocker, refreshed]

/-! ### The end of a booking (R24, R25, R28, R30) -/

/-- R24, R163: PNL when it has heard that a locker has left the state `was`. -/
def Pnl.afterLeaving (p : Pnl) (n : LockerNo) (was : LockerState) : Pnl :=
  if was = .holding ∧ p.claim = some n then { p with claim := none, claimTimer := none } else p

theorem State.leftHolding_eq (s : State) (n : LockerNo) (was : LockerState) :
    s.leftHolding n was = s.withPnl (s.pnl.afterLeaving n was) := by
  unfold State.leftHolding Pnl.afterLeaving
  split <;> rfl

/-- The claim and the record of an end event do not touch each other. -/
theorem State.fileOrQueue_withPnl (s : State) (p : Pnl) (n : LockerNo) (r : OutcomeRecord) :
    (s.withPnl p).fileOrQueue n r = (s.fileOrQueue n r).withPnl p := by
  have same : (s.withPnl p).hasRoom = s.hasRoom := rfl
  rw [State.fileOrQueue, State.fileOrQueue, same]
  split <;> rfl

/-- R30, where OCL has room: the transition and the filing are one write of the record. -/
theorem State.putLocker_fileOrQueue_of_room (s : State) (n : LockerNo) (l : Locker) (r : OutcomeRecord)
    (room : s.ocl.records.length < 8) :
    (s.putLocker n l).fileOrQueue n r = (s.putLocker n l.clearBooking).withOcl (s.ocl.file r) := by
  have refreshed : l.refresh.clearBooking.refresh = l.clearBooking.refresh := l.clearBooking.refresh_refresh
  rw [State.fileOrQueue_room _ _ _ (by simpa using room), State.putLocker_locker_same, State.putLocker_putLocker,
    State.putLocker_ocl, State.putLocker, refreshed, State.putLocker]

/-- R30, where it has none: the transition and the queuing are one write of the record. -/
theorem State.putLocker_fileOrQueue_of_full (s : State) (n : LockerNo) (l : Locker) (r : OutcomeRecord)
    (full : 8 ≤ s.ocl.records.length) : (s.putLocker n l).fileOrQueue n r =
      (s.putLocker n { l with recordPending := true }).withFiling (s.filing ++ [⟨n, r⟩]) := by
  have refreshed : { l.refresh with recordPending := true }.refresh = { l with recordPending := true }.refresh :=
    { l with recordPending := true }.refresh_refresh
  rw [State.fileOrQueue_full _ _ _ (by simpa using full), State.putLocker_locker_same, State.putLocker_putLocker,
    State.putLocker_filing, State.putLocker, refreshed, State.putLocker]

/-- R24, R25: a lockout is one write of the record, filed or queued, and PNL hears of it. -/
theorem State.endInLockout_eq (s : State) (n : LockerNo) (c : Cause) (e : BookingEnd) : s.endInLockout n c e =
    ((s.putLocker n ((s.locker n).lockOut c)).fileOrQueue n (outcomeRecord n (s.locker n) e)).withPnl
      (s.pnl.afterLeaving n (s.locker n).state) := by
  rw [← State.fileOrQueue_withPnl]
  exact congrArg (State.fileOrQueue · n _) (State.leftHolding_eq ..)

theorem State.endInLockout_of_room (s : State) (n : LockerNo) (c : Cause) (e : BookingEnd)
    (room : s.ocl.records.length < 8) : s.endInLockout n c e =
      ((s.putLocker n ((s.locker n).lockOut c).clearBooking).withOcl
        (s.ocl.file (outcomeRecord n (s.locker n) e))).withPnl (s.pnl.afterLeaving n (s.locker n).state) := by
  rw [State.endInLockout_eq, State.putLocker_fileOrQueue_of_room _ _ _ _ room]

theorem State.endInLockout_of_full (s : State) (n : LockerNo) (c : Cause) (e : BookingEnd)
    (full : 8 ≤ s.ocl.records.length) : s.endInLockout n c e =
      ((s.putLocker n { (s.locker n).lockOut c with recordPending := true }).withFiling
        (s.filing ++ [⟨n, outcomeRecord n (s.locker n) e⟩])).withPnl
          (s.pnl.afterLeaving n (s.locker n).state) := by
  rw [State.endInLockout_eq, State.putLocker_fileOrQueue_of_full _ _ _ _ full]

/-- R21, R30: with room in OCL a collected locker is free. -/
theorem State.endCollected_of_room (s : State) (n : LockerNo) (room : s.ocl.records.length < 8) : s.endCollected n =
    (s.putLocker n { (s.locker n).relock with state := .free, deferredCause := none }.clearBooking).withOcl
      (s.ocl.file (outcomeRecord n (s.locker n) .collected)) := by
  have hasRoom : s.hasRoom = true := decide_eq_true room
  simp only [State.endCollected, hasRoom, if_true]
  exact State.putLocker_fileOrQueue_of_room _ _ _ _ room

/-- R21, R30: with none it waits in FILING. -/
theorem State.endCollected_of_full (s : State) (n : LockerNo) (full : 8 ≤ s.ocl.records.length) : s.endCollected n =
    (s.putLocker n { (s.locker n).relock with
      state := .filing, deferredCause := none, recordPending := true }).withFiling
        (s.filing ++ [⟨n, outcomeRecord n (s.locker n) .collected⟩]) := by
  have noRoom : s.hasRoom = false := decide_eq_false (Nat.not_lt.mpr full)
  simp only [State.endCollected, noRoom, Bool.false_eq_true, if_false]
  exact State.putLocker_fileOrQueue_of_full _ _ _ _ full

/-- R28: the record of an end event that is no collection, written out. -/
theorem outcomeRecord_of_notCollected (n : LockerNo) (l : Locker) {e : BookingEnd} (notCollected : e ≠ .collected) :
    outcomeRecord n l e =
      { ref := l.orderRef.getD 0
        locker := n
        outcome := e
        flags := if e = .voided then ⟨false, false, false, false⟩ else ⟨l.loadedCold, false, false, l.overheat⟩
        stats := if e = .voided then none
          else some ⟨l.holdElapsed, l.minReading, l.belowTotal, l.belowLongest⟩ } := by
  cases e with
  | collected => exact absurd rfl notCollected
  | voided | expired | cold | sensor | tamper | cancelled => rfl

/-- R28: the record of a collection, written out. -/
theorem outcomeRecord_of_collected (n : LockerNo) (l : Locker) : outcomeRecord n l .collected =
    { ref := l.orderRef.getD 0
      locker := n
      outcome := .collected
      flags := ⟨l.loadedCold, decide (l.deferredCause = some .expired),
        decide (l.deferredCause = some .cold ∨ 0 < l.belowTotal), l.overheat⟩
      stats := some ⟨l.holdElapsed, l.minReading, l.belowTotal, l.belowLongest⟩ } := by
  simp only [outcomeRecord, outcomeFlags, outcomeStats, Bool.decide_or]

/-- Settles O12: the lockout is one write of the record, by the room in OCL. -/
theorem lockoutEndsTheBooking : Obligations.LockoutEndsTheBooking := by
  unfold Obligations.LockoutEndsTheBooking
  intro s n c e notCollected
  refine ⟨fun room => ?_, fun full => ?_⟩
  · rw [State.endInLockout_of_room s n c e room, outcomeRecord_of_notCollected n _ notCollected]
    rfl
  · rw [State.endInLockout_of_full s n c e full, outcomeRecord_of_notCollected n _ notCollected]
    rfl

/-! ### The load chain's turn (R147, R149) -/

/-- R147: the entry's locker is BOOKED under its ref, so the entry can have its turn. -/
def State.waits (s : State) (e : ChainEntry) : Bool :=
  decide ((s.locker e.locker).state = .booked) && decide ((s.locker e.locker).orderRef = some e.ref)

/-- R147: entries that cannot have their turn are passed over and counted. -/
theorem State.giveTurn_append (s : State) {passed : List ChainEntry} (rest : List ChainEntry)
    (pass : ∀ e ∈ passed, s.waits e = false) : s.giveTurn (passed ++ rest) =
      (s.withBkc { s.bkc with skipped := s.bkc.skipped + passed.length }).giveTurn rest := by
  induction passed generalizing s with
  | nil => rfl
  | cons e passed ih =>
    obtain ⟨first, later⟩ := List.forall_mem_cons.mp pass
    have skipped : s.bkc.skipped + 1 + passed.length = s.bkc.skipped + (e :: passed).length := by simp; omega
    rw [List.cons_append, State.giveTurn_skip s e _ (by simpa [State.waits] using first), ← skipped]
    exact ih _ later

/-- The same with the first entry that waits: what is left from it on. -/
theorem State.giveTurn_dropWhile (s : State) (es : List ChainEntry) :
    s.giveTurn es = (s.withBkc { s.bkc with
      skipped := s.bkc.skipped + (es.length - (es.dropWhile fun e => !s.waits e).length) }).giveTurn
        (es.dropWhile fun e => !s.waits e) := by
  have lengths := congrArg List.length (List.takeWhile_append_dropWhile (p := fun e => !s.waits e) (l := es))
  have count : es.length - (es.dropWhile fun e => !s.waits e).length = (es.takeWhile fun e => !s.waits e).length := by
    rw [List.length_append] at lengths
    omega
  have pass : ∀ e ∈ es.takeWhile (fun e => !s.waits e), s.waits e = false := fun e member => by
    simpa using List.mem_takeWhile_imp member
  rw [count, ← State.giveTurn_append s _ pass, List.takeWhile_append_dropWhile]

/-- Settles O29: the entries are those passed over and the rest, whose first has its turn. -/
theorem chainTurnPassesOver : Obligations.ChainTurnPassesOver := by
  unfold Obligations.ChainTurnPassesOver
  intro s es waits left skipped
  have turn : s.giveTurn es = (s.withBkc { s.bkc with skipped := skipped }).giveTurn left := s.giveTurn_dropWhile es
  refine ⟨fun none => ?_, fun e more first => ?_⟩
  · rw [turn, none]
    rfl
  · have takes : waits e = true := by
      have head := List.head?_dropWhile_not (p := fun e => !waits e) es
      have some : (es.dropWhile fun e => !waits e).head? = some e := by
        rw [show es.dropWhile _ = left from rfl, first]
        rfl
      simpa [some] using head
    rw [turn, first, State.giveTurn_take _ e more (by simpa [waits] using takes)]
    rfl

/-! ### The opening of a door (R9, R10, R12) -/

section doorOpened
variable {s : State} {n : LockerNo}

theorem State.doorOpened_of_out (state : (s.locker n).state = .out) : s.doorOpened n = s := by
  simp only [State.doorOpened, state]

theorem State.doorOpened_of_empty
    (state : (s.locker n).state = .free ∨ (s.locker n).state = .lockout ∨ (s.locker n).state = .filing) :
    s.doorOpened n = s.putLocker n { s.locker n with tamper := true } := by
  rcases state with state | state | state <;> simp only [State.doorOpened, state]

theorem State.doorOpened_of_booked (state : (s.locker n).state = .booked) :
    s.doorOpened n = s.putLocker n { (s.locker n).switchOff with tamper := true } := by
  simp only [State.doorOpened, state]

theorem State.doorOpened_of_holding (state : (s.locker n).state = .holding) :
    s.doorOpened n = (s.putLocker n { s.locker n with tamper := true }).endInLockout n .tamper .tamper := by
  simp only [State.doorOpened, state]

theorem State.doorOpened_of_released
    (state : (s.locker n).state = .loading ∨ (s.locker n).state = .opened ∨ (s.locker n).state = .clearing) :
    s.doorOpened n = s.putLocker n (s.locker n).openReleased := by
  rcases state with state | state | state <;> simp only [State.doorOpened, state]

end doorOpened

/-- R5: a tampered locker that is not ajar shows SLOW. -/
theorem Locker.pattern_of_tamper {l : Locker} (shut : l.ajar = false) (tampered : l.tamper = true) :
    l.pattern = .slow := by
  simp [Locker.pattern, shut, tampered]

/-- Settles O23: the input and what the opening does are one write of the record, by the state. -/
theorem doorOpenByState : Obligations.DoorOpenByState := by
  unfold Obligations.DoorOpenByState
  intro n s shut l
  have opening : exec (.doorOpenEvent n) s = .next ((s.setLocker n l).doorOpened n) := if_pos shut
  have same : (s.setLocker n l).locker n = l := s.setLocker_locker_same n l
  rw [opening]
  refine ⟨fun out => ?_, fun state => ⟨?_, fun notAjar => ?_⟩, fun booked => ⟨?_, fun notAjar => ?_⟩, fun holding => ?_,
    fun state => ?_⟩
  · rw [State.doorOpened_of_out (by rw [same]; exact out)]
  · rw [State.doorOpened_of_empty (by rw [same]; exact state), same, State.setLocker_putLocker]
  · exact Locker.pattern_of_tamper notAjar rfl
  · rw [State.doorOpened_of_booked (by rw [same]; exact booked), same, State.setLocker_putLocker]
    rfl
  · exact Locker.pattern_of_tamper notAjar rfl
  · rw [State.doorOpened_of_holding (by rw [same]; exact holding), same, State.setLocker_putLocker]
  · rw [State.doorOpened_of_released (by rw [same]; exact state), same, State.setLocker_putLocker]
    rfl

/-! ### The closing of a door (R8, R10) -/

section latchLaw
variable {l : Locker} (law : l.LatchLaw)
include law

theorem Locker.LatchLaw.released (state : l.state.releasedState = true) : l.latch = .released := law.latch.mpr state

/-- R12: a released door is not forced. -/
theorem Locker.LatchLaw.tamper_of_released (state : l.state.releasedState = true) : l.tamper = false := by
  cases tamper : l.tamper with
  | false => rfl
  | true => exact absurd (law.tamper tamper) (by simp [law.released state])

/-- R5, R10: the pattern of a locker does not change when its door shuts: one that is ajar is in a state that shows
FAST. -/
theorem Locker.LatchLaw.shutWith_refresh (tray : Bool) : (l.shutWith tray).refresh = l.shutWith tray := by
  refine Locker.refresh_self (law.indicator.trans ?_)
  cases ajar : l.ajar with
  | false =>
    simp only [Locker.pattern, Locker.shutWith, ajar]
    rfl
  | true =>
    have state := law.ajar ajar
    have shown : l.state.pattern = .fast := by
      cases named : l.state with
      | loading | opened | clearing => rfl
      | out | free | booked | holding | lockout | filing => simp [named, LockerState.releasedState] at state
    simp [Locker.pattern, Locker.shutWith, ajar, law.tamper_of_released state, shown]

end latchLaw

@[simp] theorem Locker.shutWith_state (l : Locker) (tray : Bool) : (l.shutWith tray).state = l.state := rfl
@[simp] theorem Locker.shutWith_tamper (l : Locker) (tray : Bool) : (l.shutWith tray).tamper = l.tamper := rfl
@[simp] theorem Locker.shutWith_trayPresent (l : Locker) (tray : Bool) : (l.shutWith tray).trayPresent = tray := rfl

section doorClosed
variable {s : State} {n : LockerNo}

/-- R8: the inputs are stored, and what the closing does follows. -/
theorem exec_doorCloseEvent_of_open (tray : Bool) (opened : (s.locker n).doorShut = false)
    (law : (s.locker n).LatchLaw) :
    exec (.doorCloseEvent n tray) s = .next ((s.setLocker n ((s.locker n).shutWith tray)).doorClosed n) := by
  rw [← s.putLocker_of_refreshed n (law.shutWith_refresh tray)]
  exact if_neg (by simp [opened])

theorem State.doorClosed_of_tamper (tampered : (s.locker n).tamper = true) :
    s.doorClosed n = (s.setLocker n { s.locker n with tamper := false }).closeForced n := by
  simp only [State.doorClosed, tampered, if_true]

theorem State.doorClosed_of_loading (state : (s.locker n).state = .loading) (untouched : (s.locker n).tamper = false) :
    s.doorClosed n = s.closeLoading n := by
  simp [State.doorClosed, state, untouched]

theorem State.doorClosed_of_opened (state : (s.locker n).state = .opened) (untouched : (s.locker n).tamper = false) :
    s.doorClosed n = s.closeOpened n := by
  simp [State.doorClosed, state, untouched]

theorem State.doorClosed_of_clearing (state : (s.locker n).state = .clearing)
    (untouched : (s.locker n).tamper = false) : s.doorClosed n = s.closeClearing n := by
  simp [State.doorClosed, state, untouched]

/-- R8, R10: the closing of a locked door that was not forced moves the inputs alone. -/
theorem State.doorClosed_of_locked (state : (s.locker n).state.releasedState = false)
    (untouched : (s.locker n).tamper = false) : s.doorClosed n = s := by
  unfold State.doorClosed
  rw [if_neg (by simp [untouched])]
  split
  next loading => simp [loading, LockerState.releasedState] at state
  next opened => simp [opened, LockerState.releasedState] at state
  next clearing => simp [clearing, LockerState.releasedState] at state
  all_goals rfl

/-- R13: a tray behind the forced door of an empty locker is a foreign object. -/
theorem State.closeForced_of_empty (state : (s.locker n).state = .free ∨ (s.locker n).state = .filing) :
    s.closeForced n
      = s.putLocker n (if (s.locker n).trayPresent then (s.locker n).lockOut .foreign else s.locker n) := by
  rcases state with state | state <;> simp only [State.closeForced, state]

theorem State.closeForced_of_booked (state : (s.locker n).state = .booked) :
    s.closeForced n = if (s.locker n).trayPresent then s.endInLockout n .foreign .voided
      else s.putLocker n (s.locker n) := by
  simp only [State.closeForced, state]

theorem State.closeForced_of_other (notFree : (s.locker n).state ≠ .free) (notFiling : (s.locker n).state ≠ .filing)
    (notBooked : (s.locker n).state ≠ .booked) : s.closeForced n = s.putLocker n (s.locker n) := by
  simp only [State.closeForced]
  split
  next free => exact absurd free notFree
  next filing => exact absurd filing notFiling
  next booked => exact absurd booked notBooked
  all_goals rfl

end doorClosed

/-- Settles O24: a forced closing clears the flag and does what the tray tells, by the state. -/
theorem doorCloseAfterForcedOpening : Obligations.DoorCloseAfterForcedOpening := by
  unfold Obligations.DoorCloseAfterForcedOpening
  intro n tray s opened law l l1 out
  have closing : exec (.doorCloseEvent n tray) s = .next ((s.setLocker n l).doorClosed n) :=
    exec_doorCloseEvent_of_open tray opened law
  have same : (s.setLocker n l).locker n = l := s.setLocker_locker_same n l
  have forced (tampered : l.tamper = true) : (s.setLocker n l).doorClosed n = (s.setLocker n l1).closeForced n := by
    rw [State.doorClosed_of_tamper (by rw [same]; exact tampered), same, State.setLocker_setLocker]
  have cleared : (s.setLocker n l1).locker n = l1 := s.setLocker_locker_same n l1
  rw [closing]
  refine ⟨fun tampered state => ?_, fun tampered booked => ?_, fun tampered lockout => ?_, fun untouched locked => ?_⟩
  · rw [forced tampered, State.closeForced_of_empty (by rw [cleared]; exact state), cleared, State.setLocker_putLocker]
    rfl
  · rw [forced tampered, State.closeForced_of_booked (by rw [cleared]; exact booked), cleared,
      State.setLocker_putLocker]
  · have state : l1.state = .lockout := lockout
    rw [forced tampered, State.closeForced_of_other (by simp [state]) (by simp [state]) (by simp [state]), cleared,
      State.setLocker_putLocker]
  · have state : l.state.releasedState = false := by
      cases released : l.state.releasedState with
      | false => rfl
      | true => exact absurd (law.released released) (by rw [show (s.locker n).latch = _ from locked]; nofun)
    rw [State.doorClosed_of_locked (by rw [same]; exact state) (by rw [same]; exact untouched)]

/-! ### The closing of a released door (R16, R21, R22, R27) -/

section released
variable {s : State} {n : LockerNo}

theorem State.closeLoading_of_tray (tray : (s.locker n).trayPresent = true) : s.closeLoading n =
    (s.putLocker n { (s.locker n).relock.startHold with state := .holding }).giveTurn s.bkc.entries.tail := by
  rw [State.closeLoading, if_pos tray]
  rfl

/-- R16, R148: the visit to a locker that goes back to BOOKED counts as skipped. -/
theorem State.backToBooked_skipped (s : State) (n : LockerNo) : (s.backToBooked n).loadingExit .skipped =
    ((s.putLocker n { (s.locker n).relock with state := .booked, loadedCold := false }).withBkc
      { s.bkc with skipped := s.bkc.skipped + 1 }).giveTurn s.bkc.entries.tail := rfl

theorem State.closeLoading_of_empty (empty : (s.locker n).trayPresent = false) :
    s.closeLoading n = (s.backToBooked n).loadingExit .skipped := by
  rw [State.closeLoading, if_neg (by simp [empty])]

theorem State.reshut_of_none (none : (s.locker n).deferredCause = none) :
    s.reshut n = s.putLocker n { (s.locker n).relock with state := .holding } := by
  simp only [State.reshut, none]

theorem State.reshut_of_some {c : ScanCause} (deferred : (s.locker n).deferredCause = some c) :
    s.reshut n = s.endInLockout n c.cause c.bookingEnd := by
  simp only [State.reshut, deferred]

theorem State.closeOpened_of_tray (tray : (s.locker n).trayPresent = true) : s.closeOpened n = s.reshut n := by
  rw [State.closeOpened, if_pos tray]

theorem State.closeOpened_of_empty (empty : (s.locker n).trayPresent = false) :
    s.closeOpened n = s.endCollected n := by
  rw [State.closeOpened, if_neg (by simp [empty])]

theorem State.closeClearing_of_tray (tray : (s.locker n).trayPresent = true) :
    s.closeClearing n = s.putLocker n { (s.locker n).relock with state := .lockout } := by
  simp only [State.closeClearing, tray, if_true]
  rfl

theorem State.closeClearing_of_pending (empty : (s.locker n).trayPresent = false)
    (pending : (s.locker n).recordPending = true) :
    s.closeClearing n = s.putLocker n { (s.locker n).relock with state := .filing } := by
  simp [State.closeClearing, empty, pending]

theorem State.closeClearing_of_filed (empty : (s.locker n).trayPresent = false)
    (filed : (s.locker n).recordPending = false) :
    s.closeClearing n = s.putLocker n { (s.locker n).relock with state := .free, lockoutCause := none } := by
  simp [State.closeClearing, empty, filed]

end released

/-- Settles O25: the close of a LOADING locker by its tray. -/
theorem doorCloseInLoading : Obligations.DoorCloseInLoading := by
  unfold Obligations.DoorCloseInLoading
  intro n s opened law loading
  have untouched : (s.locker n).tamper = false := law.tamper_of_released (by rw [loading]; rfl)
  have closing (tray : Bool) : exec (.doorCloseEvent n tray) s
      = .next ((s.setLocker n ((s.locker n).shutWith tray)).closeLoading n) := by
    rw [exec_doorCloseEvent_of_open tray opened law,
      State.doorClosed_of_loading (by simpa using loading) (by simpa using untouched)]
  refine ⟨?_, ?_⟩
  · rw [closing, State.closeLoading_of_tray (by simp), State.setLocker_locker_same,
      State.setLocker_putLocker]
    rfl
  · rw [closing, State.closeLoading_of_empty (by simp), State.backToBooked_skipped,
      State.setLocker_locker_same, State.setLocker_putLocker]
    rfl

/-- Settles O26: the close of an OPEN locker by its tray, its deferred cause and the room in OCL. -/
theorem doorCloseInOpen : Obligations.DoorCloseInOpen := by
  unfold Obligations.DoorCloseInOpen
  intro n s opened law state l shut record
  have untouched : (s.locker n).tamper = false := law.tamper_of_released (by rw [state]; rfl)
  have closing (tray : Bool) : exec (.doorCloseEvent n tray) s
      = .next ((s.setLocker n ((s.locker n).shutWith tray)).closeOpened n) := by
    rw [exec_doorCloseEvent_of_open tray opened law,
      State.doorClosed_of_opened (by simpa using state) (by simpa using untouched)]
  have same (tray : Bool) : (s.setLocker n ((s.locker n).shutWith tray)).locker n = (s.locker n).shutWith tray :=
    s.setLocker_locker_same n _
  have filed : outcomeRecord n ((s.locker n).shutWith false) .collected = record :=
    outcomeRecord_of_collected n _
  refine ⟨fun none => ?_, fun c deferred => ?_, fun room => ?_, fun full => ?_⟩
  · rw [closing, State.closeOpened_of_tray (by simp),
      State.reshut_of_none (by rw [same]; exact none), same, State.setLocker_putLocker]
    rfl
  · rw [closing, State.closeOpened_of_tray (by simp),
      State.reshut_of_some (by rw [same]; exact deferred)]
    rfl
  · rw [closing, State.closeOpened_of_empty (by simp), State.endCollected_of_room (s.setLocker n _) _ room, same,
      filed, State.setLocker_putLocker]
    rfl
  · rw [closing, State.closeOpened_of_empty (by simp), State.endCollected_of_full (s.setLocker n _) _ full, same,
      filed, State.setLocker_putLocker]
    rfl

/-- Settles O27: the close of a CLEARING locker by its tray and its record. -/
theorem doorCloseInClearing : Obligations.DoorCloseInClearing := by
  unfold Obligations.DoorCloseInClearing
  intro n s opened law clearing
  have untouched : (s.locker n).tamper = false := law.tamper_of_released (by rw [clearing]; rfl)
  have closing (tray : Bool) : exec (.doorCloseEvent n tray) s
      = .next ((s.setLocker n ((s.locker n).shutWith tray)).closeClearing n) := by
    rw [exec_doorCloseEvent_of_open tray opened law,
      State.doorClosed_of_clearing (by simpa using clearing) (by simpa using untouched)]
  have same (tray : Bool) : (s.setLocker n ((s.locker n).shutWith tray)).locker n = (s.locker n).shutWith tray :=
    s.setLocker_locker_same n _
  refine ⟨?_, fun pending => ?_, fun filed => ?_⟩
  · rw [closing, State.closeClearing_of_tray (by simp), same, State.setLocker_putLocker]
    rfl
  · rw [closing, State.closeClearing_of_pending (by simp) (by rw [same]; exact pending), same,
      State.setLocker_putLocker]
    rfl
  · rw [closing, State.closeClearing_of_filed (by simp) (by rw [same]; exact filed), same,
      State.setLocker_putLocker]
    rfl

/-! ### The timers of a locker (R9, R10, R23) -/

section unlatchExpired
variable {s : State} {n : LockerNo}

theorem State.unlatchExpired_of_loading (state : (s.locker n).state = .loading) : s.unlatchExpired n =
    ((s.setLocker n { s.locker n with unlatchTimer := none }).backToBooked n).loadingExit .skipped := by
  simp [State.unlatchExpired, state]

theorem State.unlatchExpired_of_opened (state : (s.locker n).state = .opened) :
    s.unlatchExpired n = (s.setLocker n { s.locker n with unlatchTimer := none }).reshut n := by
  simp [State.unlatchExpired, state]

theorem State.unlatchExpired_of_clearing (state : (s.locker n).state = .clearing) :
    s.unlatchExpired n = (s.setLocker n { s.locker n with unlatchTimer := none }).backToLockout n := by
  simp [State.unlatchExpired, state]

end unlatchExpired

/-- Settles O28: a timer that stands at its end expires with no more time passing, and by the state the locker is
relatched. -/
theorem lockerTimersExpire : Obligations.LockerTimersExpire := by
  unfold Obligations.LockerTimersExpire
  intro n s v l shut
  refine ⟨fun runs atEnd => ?_, fun runs atEnd => ⟨?_, rfl⟩⟩
  · have expiry : exec (.unlatchTimerExpiry n) s = .next (s.unlatchExpired n) := by
      simp only [exec, execUnlatchTimerExpiry, runs]
      rw [State.onExpiry_atEnd s (limit := unlatchEnd) atEnd]
    have same : (s.setLocker n l).locker n = l := s.setLocker_locker_same n l
    rw [expiry]
    refine ⟨fun loading => ?_, fun opened none => ?_, fun opened c deferred => ?_, fun clearing => ?_⟩
    · rw [State.unlatchExpired_of_loading loading, State.backToBooked_skipped, same, State.setLocker_putLocker]
      rfl
    · rw [State.unlatchExpired_of_opened opened, State.reshut_of_none (by rw [same]; exact none), same,
        State.setLocker_putLocker]
      rfl
    · rw [State.unlatchExpired_of_opened opened, State.reshut_of_some (by rw [same]; exact deferred)]
    · rw [State.unlatchExpired_of_clearing clearing, State.backToLockout, same, State.setLocker_putLocker]
      rfl
  · simp only [exec, execAjarTimerExpiry, runs]
    rw [State.onExpiry_atEnd s (limit := ajarEnd) atEnd]
    rfl

end Sys2Proof.Machine

/-! PROOFS. What a running part can do to its lockers, its records and its ports, said once: the changes of one locker
record, the ends and beginnings of bookings, and the events of the ports. -/

namespace Sys2Proof.Machine

/-! ### Changes of one locker record -/

/-- The changes of a locker record that neither begin nor end a booking, each with what is known of the record when it
happens. `overtemp` is the overtemperature limit in force. -/
inductive Locker.Move (overtemp : Nat) (l : Locker) : Locker → Prop
  | time (d : Nat) : l.Move overtemp (l.tick d)
  | tray (b : Bool) : l.Move overtemp { l with trayPresent := b }
  | sampled (x : Reading) (notBooked : l.state ≠ .booked) (notHolding : l.state ≠ .holding) :
      l.Move overtemp (l.takeSample x)
  | reported (x : Reading) : l.Move overtemp (if readingEligible (l.takeSample x).reading overtemp
      then l.takeSample x else (l.takeSample x).switchOff)
  | supervised (floor : Nat) : l.Move overtemp (l.supervise floor overtemp)
  | deferred (c : ScanCause) (opened : l.state = .opened) : l.Move overtemp { l with deferredCause := some c }
  | unlatchIdle : l.Move overtemp { l with unlatchTimer := none }
  | leftAjar (timer : l.ajarTimer.isSome) : l.Move overtemp { l with ajarTimer := none, ajar := true }.refresh
  | openedOut (out : l.state = .out) : l.Move overtemp { l with doorShut := false }
  | forced (state : l.state = .free ∨ l.state = .lockout ∨ l.state = .filing) :
      l.Move overtemp { l with doorShut := false, tamper := true }.refresh
  | forcedBooked (booked : l.state = .booked) :
      l.Move overtemp { l.switchOff with doorShut := false, tamper := true }.refresh
  | openedReleased (state : l.state = .loading ∨ l.state = .opened ∨ l.state = .clearing) :
      l.Move overtemp { l.openReleased with doorShut := false }.refresh
  | shut (tray : Bool) : l.Move overtemp (l.shutWith tray).refresh
  | untampered : l.Move overtemp { l with tamper := false }.refresh
  | foreign (state : l.state = .free ∨ l.state = .filing) :
      l.Move overtemp ({ l with tamper := false }.lockOut .foreign).refresh
  | loading (cold : Bool) (booked : l.state = .booked) :
      l.Move overtemp { (l.unlock .loading).switchOff with loadedCold := cold }.refresh
  | held (loading : l.state = .loading) : l.Move overtemp { l.relock.startHold with state := .holding }.refresh
  | rebooked (loading : l.state = .loading) :
      l.Move overtemp { l.relock with state := .booked, loadedCold := false }.refresh
  | reheld (opened : l.state = .opened) (none : l.deferredCause = none) :
      l.Move overtemp { l.relock with state := .holding }.refresh
  | pickedUp (holding : l.state = .holding) :
      l.Move overtemp { (l.unlock .opened).switchOff with deferredCause := none }.refresh
  | clearing (locked : l.state = .lockout) : l.Move overtemp (l.unlock .clearing).refresh
  | relocked (clearing : l.state = .clearing) : l.Move overtemp { l.relock with state := .lockout }.refresh
  | emptied (clearing : l.state = .clearing) (pending : l.recordPending = true) :
      l.Move overtemp { l.relock with state := .filing }.refresh
  | cleared (clearing : l.state = .clearing) (filed : l.recordPending = false) :
      l.Move overtemp { l.relock with state := .free, lockoutCause := none }.refresh
  | hidden (free : l.state = .free) : l.Move overtemp { l with state := .out, hidden := true }.refresh
  | shown (out : l.state = .out) : l.Move overtemp { l with state := .free, hidden := false }.refresh
  | switched (on : Bool) (due : on = true → 0 < l.duty) : l.Move overtemp { l with heaterOn := on }
  | planned (call : Bool) (cls : HeatClass) (request duty : Nat) (on : Bool)
      (eligible : 0 < duty → l.eligible overtemp = true) (placed : on = true → 0 < duty) :
      l.Move overtemp { l with call := call, cls := cls, request := request, duty := duty, heaterOn := on }

/-- Two records that differ in the door, the tamper flag and the lamp at most: an end of a booking can follow a door
event within one command. -/
def Locker.SameButDoor (l m : Locker) : Prop :=
  m = { l with doorShut := m.doorShut, tamper := m.tamper, indicator := m.indicator, lampPhase := m.lampPhase }

/-- R26: a state in which a booking can end. -/
def LockerState.ends (st : LockerState) : Prop := st = .booked ∨ st = .holding ∨ st = .opened

/-! ### What the ports keep -/

/-- From one state to another the heat bus port, the peer view and the configuration are as they were, the shed and its
input too, the release hold goes on running or stays idle, and the throttle's law is kept. -/
structure State.SamePorts (s t : State) : Prop where
  hbp      : t.hbp = s.hbp
  pvt      : t.pvt = s.pvt
  cfl      : t.cfl = s.cfl
  shed     : t.fsc.shed = s.fsc.shed
  hold     : t.fsc.releaseHold.isSome = s.fsc.releaseHold.isSome
  warn     : t.fsc.feederWarn = s.fsc.feederWarn
  throttle : s.ThrottleLaw → t.ThrottleLaw

/-- The throttle's law sees the miss count, the throttle and its timer alone. -/
theorem State.ThrottleLaw.same {s t : State} (h : s.ThrottleLaw) (misses : t.pnl.missCount = s.pnl.missCount)
    (throttled : t.pnl.throttled = s.pnl.throttled)
    (timer : t.pnl.throttleTimer.isSome = s.pnl.throttleTimer.isSome) : t.ThrottleLaw where
  misses := by rw [throttled, misses]; exact h.misses
  timer := by rw [throttled, timer]; exact h.timer
  bound := by rw [misses]; exact h.bound

theorem State.SamePorts.refl (s : State) : s.SamePorts s := ⟨rfl, rfl, rfl, rfl, rfl, rfl, id⟩

/-- The four blocks of the ports as they were. -/
theorem State.SamePorts.of {s t : State} (hbp : t.hbp = s.hbp) (pvt : t.pvt = s.pvt) (cfl : t.cfl = s.cfl)
    (fsc : t.fsc = s.fsc) (misses : t.pnl.missCount = s.pnl.missCount) (throttled : t.pnl.throttled = s.pnl.throttled)
    (timer : t.pnl.throttleTimer.isSome = s.pnl.throttleTimer.isSome) : s.SamePorts t :=
  ⟨hbp, pvt, cfl, by rw [fsc], by rw [fsc], by rw [fsc], fun h => h.same misses throttled timer⟩

/-- The same where PNL is as it was. -/
theorem State.SamePorts.ofPnl {s t : State} (hbp : t.hbp = s.hbp) (pvt : t.pvt = s.pvt) (cfl : t.cfl = s.cfl)
    (fsc : t.fsc = s.fsc) (pnl : t.pnl = s.pnl) : s.SamePorts t :=
  .of hbp pvt cfl fsc (by rw [pnl]) (by rw [pnl]) (by rw [pnl])

theorem State.SamePorts.cfg {s t : State} (h : s.SamePorts t) : t.cfg = s.cfg := by
  rw [State.cfg, State.cfg, h.cfl]

theorem State.SamePorts.running {s t : State} (h : s.SamePorts t) : t.running = s.running := by
  rw [State.running, State.running, h.pvt]

/-! ### Events of the line of the heat bus -/

/-- What an event of the line, other than a frame end, does to HBP. -/
inductive Hbp.Move (h : Hbp) : Hbp → Prop
  | edge (read : Bool) : h.Move (h.edge read)
  | lost (arbitrating : h.sender = .arbitrating) (header : h.inHeader = true) :
      h.Move (h.keepCell false).loseArbitration
  | errored (read : Bool) (onLine : h.onLine = true) (inside : h.cellsReceived ≤ 78) :
      h.Move (h.keepCell read).errorAttempt
  | malformed (onLine : h.onLine = true) : h.Move { h with path := .skipping }.errorAttempt
  | skipped (inFrame : h.path = .inFrame) (offLine : h.onLine = false) : h.Move { h with path := .skipping }

/-! ### What a running part can do -/

/-- The single changes that the commands to a running part are made of. -/
inductive State.Move (s : State) : State → Prop
  /-- records of lockers change without a booking that begins or ends -/
  | lockers {t : State} (records : ∀ n, t.locker n = s.locker n ∨ (s.locker n).Move s.cfg.overtemp (t.locker n))
      (filing : t.filing = s.filing) (ocl : t.ocl = s.ocl) (ports : s.SamePorts t) : s.Move t
  | lockedOut (n : LockerNo) (l : Locker) (c : Cause) (e : BookingEnd) (same : (s.locker n).SameButDoor l)
      (ends : (s.locker n).state.ends) : s.Move ((s.setLocker n l).endInLockout n c e)
  | collected (n : LockerNo) (opened : (s.locker n).state = .opened) : s.Move (s.endCollected n)
  | released (ref : OrderRef) (found : (s.ocl.records.any fun r => r.ref == ref) = true) :
      s.Move (s.withOcl (s.ocl.remove ref)).fileFromQueue
  | assigned (n : LockerNo) (ref : OrderRef) (code : Code) (profile : Byte) (free : (s.locker n).state = .free)
      (known : (profileOfByte profile).isSome = true) (newRef : s.dupOrder ref = false)
      (newCode : s.dupCode code = false) : s.Move (s.assign n ref code profile)
  | freed (n : LockerNo) (booked : (s.locker n).state = .booked) : s.Move (s.freeBooked n)
  | line (h : Hbp) (moved : s.hbp.Move h) : s.Move (s.withHbp h)
  | frameEnd : s.Move s.frameEnd
  | timedStart : s.Move s.timedStart
  | warned : s.Move (s.withFsc { s.fsc with feederWarn := true }).warnAsserted
  | unwarned : s.Move (s.withFsc { s.fsc with feederWarn := false }).warnReleased
  | holdEnded (runs : s.fsc.releaseHold.isSome) : s.Move s.releaseExpired

/-- What a command to a running part can do: any number of such changes, one after the other. -/
def State.Moves : State → State → Prop := Relation.ReflTransGen State.Move

theorem State.Moves.refl (s : State) : s.Moves s := Relation.ReflTransGen.refl

theorem State.Move.once {s t : State} (move : s.Move t) : s.Moves t := Relation.ReflTransGen.single move

theorem State.Moves.next {s t u : State} (before : s.Moves t) (move : t.Move u) : s.Moves u :=
  Relation.ReflTransGen.tail before move

/-- One after the other: `rest` speaks of the state that `before` has reached. -/
theorem State.Moves.trans {s t u : State} (before : s.Moves t) (rest : t.Moves u) : s.Moves u :=
  Relation.ReflTransGen.trans before rest

/-! ### The changes under the shared operations -/

section shared
variable {s : State}

/-- A change of blocks that neither the lockers' laws nor the ports' laws see. -/
theorem State.moves_elsewhere {t : State} (lockers : ∀ n, t.locker n = s.locker n) (filing : t.filing = s.filing)
    (ocl : t.ocl = s.ocl) (ports : s.SamePorts t) : s.Moves t :=
  State.Move.once (.lockers (fun n => .inl (lockers n)) filing ocl ports)

theorem State.moves_setLocker {n : LockerNo} {l : Locker} (move : (s.locker n).Move s.cfg.overtemp l) :
    s.Moves (s.setLocker n l) := by
  refine State.Move.once (.lockers (t := s.setLocker n l) (fun m => ?_) rfl rfl (.ofPnl rfl rfl rfl rfl rfl))
  by_cases same : m = n
  · subst same
    exact .inr (by rwa [State.setLocker_locker_same])
  · exact .inl (State.setLocker_locker_other s l same)

theorem State.moves_putLocker {n : LockerNo} {l : Locker} (move : (s.locker n).Move s.cfg.overtemp l.refresh) :
    s.Moves (s.putLocker n l) :=
  s.moves_setLocker move

theorem State.moves_eachLocker {f : LockerNo → Locker → Locker}
    (move : ∀ n, (s.locker n).Move s.cfg.overtemp (f n (s.locker n))) : s.Moves (s.eachLocker f) := by
  refine State.Move.once (.lockers (t := s.eachLocker f) (fun n => .inr ?_) rfl rfl (.ofPnl (State.eachLocker_hbp ..)
    (State.eachLocker_pvt ..) (State.eachLocker_cfl ..) (State.eachLocker_fsc ..) (State.eachLocker_pnl ..)))
  rw [State.eachLocker_locker]
  exact move n

theorem State.moves_sampleTrays (trays : Lines) : s.Moves (s.sampleTrays trays) :=
  State.moves_eachLocker fun _ => .tray _

theorem State.moves_withHdf (x : Hdf) : s.Moves (s.withHdf x) :=
  State.moves_elsewhere (fun _ => rfl) rfl rfl (.ofPnl rfl rfl rfl rfl rfl)

theorem State.moves_withBkc (x : Bkc) : s.Moves (s.withBkc x) :=
  State.moves_elsewhere (fun _ => rfl) rfl rfl (.ofPnl rfl rfl rfl rfl rfl)

theorem State.moves_withSvl (x : Svl) : s.Moves (s.withSvl x) :=
  State.moves_elsewhere (fun _ => rfl) rfl rfl (.ofPnl rfl rfl rfl rfl rfl)

theorem State.moves_withOvertaken (x : Overtaken) : s.Moves (s.withOvertaken x) :=
  State.moves_elsewhere (fun _ => rfl) rfl rfl (.ofPnl rfl rfl rfl rfl rfl)

/-- PNL changes, its throttle's law kept. -/
theorem State.moves_withPnl {x : Pnl} (throttle : s.ThrottleLaw → (s.withPnl x).ThrottleLaw) :
    s.Moves (s.withPnl x) :=
  State.moves_elsewhere (fun _ => rfl) rfl rfl ⟨rfl, rfl, rfl, rfl, rfl, rfl, throttle⟩

theorem State.moves_endClaim : s.Moves s.endClaim :=
  State.moves_withPnl fun h => h.same rfl rfl rfl

/-- Time passes for the lockers' timers and lamps and for the timers of the blocks; those that run go on running. -/
theorem State.moves_advance (d : Nat) : s.Moves (s.advance d) := by
  by_cases now : d = 0
  · rw [now, State.advance_zero]
    exact .refl s
  · obtain ⟨-, fsc, pnl, -⟩ := s.advance_blocks now
    refine (State.Move.lockers (fun n => .inr ?_) (by simp) (by simp)
      ⟨by simp, by simp, by simp, by rw [fsc], by simp [fsc], by rw [fsc], fun h => ?_⟩).once
    · rw [State.advance_locker s now]
      exact .time d
    · exact h.same (by rw [pnl]) (by rw [pnl]) (by simp [pnl])

theorem State.moves_onExpiry (timer : Timer) (limit : Nat) {expire : State → State}
    (expired : ∀ u : State, u.Moves (expire u)) : s.Moves (s.onExpiry timer limit expire) :=
  s.onExpiry_keeps timer limit expire (.refl s) (fun d before => before.trans (State.moves_advance d))
    fun u before => before.trans (expired u)

theorem State.moves_endInLockout {n : LockerNo} (c : Cause) (e : BookingEnd) (ends : (s.locker n).state.ends) :
    s.Moves (s.endInLockout n c e) := by
  have move : s.Move ((s.setLocker n (s.locker n)).endInLockout n c e) := .lockedOut n _ c e rfl ends
  rw [State.setLocker_self] at move
  exact move.once

theorem State.moves_enterLoading {n : LockerNo} (booked : (s.locker n).state = .booked) : s.Moves (s.enterLoading n) :=
  State.moves_putLocker (.loading _ booked)

theorem State.moves_giveTurn (es : List ChainEntry) : s.Moves (s.giveTurn es) := by
  induction es generalizing s with
  | nil => exact State.moves_withBkc _
  | cons e rest ih =>
    by_cases takes : (s.locker e.locker).state = .booked ∧ (s.locker e.locker).orderRef = some e.ref
    · rw [State.giveTurn_take s e rest takes]
      exact (State.moves_enterLoading takes.1).trans (State.moves_withBkc _)
    · rw [State.giveTurn_skip s e rest takes]
      exact (State.moves_withBkc _).trans ih

theorem State.moves_loadingExit (x : LoadingExit) : s.Moves (s.loadingExit x) :=
  (State.moves_withBkc _).trans (State.moves_giveTurn _)

theorem State.moves_backToBooked {n : LockerNo} (loading : (s.locker n).state = .loading) :
    s.Moves (s.backToBooked n) :=
  State.moves_putLocker (.rebooked loading)

theorem State.moves_toClearing {n : LockerNo} (locked : (s.locker n).state = .lockout) : s.Moves (s.toClearing n) :=
  State.moves_putLocker (.clearing locked)

end shared

/-- What a state has reached, the receivers and the responses of the two serial lines do not undo. -/
theorem State.Moves.receiptBlind (s : State) : ReceiptBlind s.Moves where
  svl before := before.trans (State.moves_withSvl _)
  pnl before := before.trans (State.moves_withPnl fun h => h.same rfl rfl rfl)
  overtaken before := before.trans (State.moves_withOvertaken _)

/-! ### The changes under the events of the lockers -/

section lockers
variable {s : State} {n : LockerNo}

theorem State.moves_closeLoading (loading : (s.locker n).state = .loading) : s.Moves (s.closeLoading n) := by
  unfold State.closeLoading
  split
  · have held : s.Moves (s.putLocker n { (s.locker n).relock.startHold with state := .holding }) :=
      State.moves_putLocker (.held loading)
    exact held.trans (State.moves_loadingExit _)
  · exact (State.moves_backToBooked loading).trans (State.moves_loadingExit _)

theorem State.moves_reshut (opened : (s.locker n).state = .opened) : s.Moves (s.reshut n) := by
  unfold State.reshut
  split
  next none => exact State.moves_putLocker (.reheld opened none)
  next => exact State.moves_endInLockout _ _ (.inr (.inr opened))

theorem State.moves_closeOpened (opened : (s.locker n).state = .opened) : s.Moves (s.closeOpened n) := by
  unfold State.closeOpened
  split
  · exact State.moves_reshut opened
  · exact (State.Move.collected n opened).once

theorem State.moves_backToLockout (clearing : (s.locker n).state = .clearing) : s.Moves (s.backToLockout n) :=
  State.moves_putLocker (.relocked clearing)

theorem State.moves_closeClearing (clearing : (s.locker n).state = .clearing) : s.Moves (s.closeClearing n) := by
  simp only [State.closeClearing]
  split
  · exact State.moves_backToLockout clearing
  · split
    next pending => exact State.moves_putLocker (.emptied clearing pending)
    next filed => exact State.moves_putLocker (.cleared clearing (by simpa using filed))

/-- R13: the flag of a forced door is cleared, and what the tray then tells is one change with it. -/
theorem State.moves_closeForced :
    s.Moves ((s.setLocker n { s.locker n with tamper := false }).closeForced n) := by
  have same := s.setLocker_locker_same n { s.locker n with tamper := false }
  have untampered : s.Moves (s.putLocker n { s.locker n with tamper := false }) := State.moves_putLocker .untampered
  by_cases empty : (s.locker n).state = .free ∨ (s.locker n).state = .filing
  · rw [State.closeForced_of_empty (by rw [same]; exact empty), same, State.setLocker_putLocker]
    split
    · exact State.moves_putLocker (.foreign empty)
    · exact untampered
  obtain ⟨notFree, notFiling⟩ := not_or.mp empty
  by_cases booked : (s.locker n).state = .booked
  · rw [State.closeForced_of_booked (by rw [same]; exact booked), same, State.setLocker_putLocker]
    split
    · exact State.Move.once (.lockedOut n _ _ _ rfl (.inl booked))
    · exact untampered
  · rw [State.closeForced_of_other (by rw [same]; exact notFree) (by rw [same]; exact notFiling)
      (by rw [same]; exact booked), same, State.setLocker_putLocker]
    exact untampered

/-- R9, R10, R12: the door input and what the opening does are one change of the record, or an end of its booking. -/
theorem State.moves_doorOpened :
    s.Moves ((s.setLocker n { s.locker n with doorShut := false }).doorOpened n) := by
  have same := s.setLocker_locker_same n { s.locker n with doorShut := false }
  have moved : ((s.setLocker n { s.locker n with doorShut := false }).locker n).state = (s.locker n).state := by
    rw [same]
  cases state : (s.locker n).state with
  | out =>
    rw [State.doorOpened_of_out (moved.trans state)]
    exact State.moves_setLocker (.openedOut state)
  | free | lockout | filing =>
    rw [State.doorOpened_of_empty (by simp [state]), same, State.setLocker_putLocker]
    exact State.moves_putLocker (.forced (by simp [state]))
  | booked =>
    rw [State.doorOpened_of_booked (moved.trans state), same, State.setLocker_putLocker]
    exact State.moves_putLocker (.forcedBooked state)
  | holding =>
    rw [State.doorOpened_of_holding (moved.trans state), same, State.setLocker_putLocker]
    exact State.Move.once (.lockedOut n _ _ _ rfl (.inr (.inl state)))
  | loading | opened | clearing =>
    rw [State.doorOpened_of_released (by simp [state]), same, State.setLocker_putLocker]
    exact State.moves_putLocker (.openedReleased (by simp [state]))

theorem State.moves_doorClosed : s.Moves (s.doorClosed n) := by
  simp only [State.doorClosed]
  split
  · exact State.moves_closeForced
  · cases state : (s.locker n).state with
    | loading => exact State.moves_closeLoading state
    | opened => exact State.moves_closeOpened state
    | clearing => exact State.moves_closeClearing state
    | out | free | booked | holding | lockout | filing => exact .refl s

theorem State.moves_unlatchExpired (n : LockerNo) : s.Moves (s.unlatchExpired n) := by
  have idle : s.Moves (s.setLocker n { s.locker n with unlatchTimer := none }) :=
    State.moves_setLocker .unlatchIdle
  unfold State.unlatchExpired
  generalize s.setLocker n { s.locker n with unlatchTimer := none } = u at idle
  cases state : (u.locker n).state with
  | loading =>
    simpa only [state] using idle.trans ((State.moves_backToBooked state).trans (State.moves_loadingExit _))
  | opened => simpa only [state] using idle.trans (State.moves_reshut state)
  | clearing => simpa only [state] using idle.trans (State.moves_backToLockout state)
  | out | free | booked | holding | lockout | filing => simpa only [state] using idle

/-- R10: the ajar timer that expires was running. -/
theorem State.moves_ajarExpiry (n : LockerNo) :
    s.Moves (s.onExpiry (s.locker n).ajarTimer ajarEnd fun u => u.ajarExpired n) := by
  cases timer : (s.locker n).ajarTimer with
  | none => exact .refl s
  | some v =>
    have runs : ((s.advance (ajarEnd - v)).locker n).ajarTimer.isSome := by
      by_cases now : ajarEnd - v = 0
      · simp [now, timer]
      · rw [State.advance_locker s now]
        simp [Locker.tick, timer]
    exact (State.moves_advance _).trans (State.moves_putLocker (.leftAjar runs))

/-- R52, R63: in BOOKED and in HOLDING the sample and the report of the reading are one change. -/
theorem State.moves_report (x : Reading) :
    s.Moves ((s.setLocker n ((s.locker n).takeSample x)).reportReading n) := by
  have move := State.moves_setLocker (s := s) (n := n) (.reported x)
  unfold State.reportReading
  rw [State.setLocker_locker_same, State.setLocker_cfg]
  split
  next eligible =>
    rw [if_pos eligible] at move
    exact move
  next ineligible =>
    rw [if_neg ineligible] at move
    rw [State.setLocker_setLocker]
    exact move

theorem State.moves_raise (c : ScanCause) : s.Moves (s.raise n c) := by
  simp only [State.raise]
  split
  next holding => exact State.moves_endInLockout _ _ (.inr (.inl holding))
  next opened =>
    split
    · exact State.moves_setLocker (.deferred c opened)
    · exact .refl s
  all_goals exact .refl s

theorem State.moves_superviseScan : s.Moves (s.superviseScan n) := by
  have supervised : s.Moves (s.setLocker n
      ((s.locker n).supervise (floorOf (s.profileOf (s.locker n))) s.cfg.overtemp)) :=
    State.moves_setLocker (.supervised _)
  simp only [State.superviseScan]
  split
  · exact supervised.trans (State.moves_raise _)
  · exact supervised

theorem State.moves_scan (n : LockerNo) (x : Reading) : s.Moves (s.scan n x) := by
  have sampled (notBooked : (s.locker n).state ≠ .booked) (notHolding : (s.locker n).state ≠ .holding) :
      s.Moves (s.setLocker n ((s.locker n).takeSample x)) :=
    State.moves_setLocker (.sampled x notBooked notHolding)
  have same : ((s.locker n).takeSample x).state = (s.locker n).state := rfl
  simp only [State.scan, State.setLocker_locker_same, same]
  cases state : (s.locker n).state with
  | holding => exact (State.moves_report x).trans State.moves_superviseScan
  | booked => exact State.moves_report x
  | opened => exact (sampled (by simp [state]) (by simp [state])).trans State.moves_superviseScan
  | out | free | loading | lockout | clearing | filing => exact sampled (by simp [state]) (by simp [state])

end lockers

/-! ### The changes under the commands of the service line -/

section service
variable {s : State}

/-- R139: a BOOK that is assigned has passed its checks. -/
theorem State.moves_book (ref : OrderRef) (code : Code) (profile : Byte) (preferred : Option Byte) :
    s.Moves (s.book ref code profile preferred).1 := by
  unfold State.book
  split
  · exact .refl s
  next fields =>
    split
    · exact .refl s
    split
    · exact .refl s
    next newRef =>
      split
      · exact .refl s
      next newCode =>
        split
        next n chosen =>
          have known : (profileOfByte profile).isSome = true := by
            simp only [bookInRange, Bool.not_eq_true', Bool.not_eq_false, Bool.and_eq_true] at fields
            exact fields.1.2
          exact (State.Move.assigned n ref code profile (State.free_of_chooseLocker chosen) known
            (by simpa using newRef) (by simpa using newCode)).once
        next => exact .refl s

theorem State.moves_load (force : Bool) (refs : List OrderRef) : s.Moves (s.load force refs).1 := by
  unfold State.load
  iterate 2
    split
    exact .refl s
  split
  · exact .refl s
  · exact (State.moves_withBkc _).trans (State.moves_giveTurn _)

theorem State.moves_relatch (n : LockerNo) : s.Moves (s.relatch n) := by
  unfold State.relatch
  split
  next loading => exact (State.moves_backToBooked loading.1).trans (State.moves_loadingExit _)
  next => exact .refl s

theorem State.moves_abortLoad : s.Moves s.abortLoad.1 := by
  unfold State.abortLoad
  split
  · exact .refl s
  · exact (State.moves_withBkc _).trans (State.moves_relatch _)

theorem State.moves_cancel (ref : OrderRef) : s.Moves (s.cancel ref).1 := by
  unfold State.cancel
  split
  · exact .refl s
  next n _ =>
    cases state : (s.locker n).state with
    | booked => exact (State.Move.freed n state).once.trans (State.moves_withBkc _)
    | holding => exact State.moves_endInLockout _ _ (.inr (.inl state))
    | loading | opened | lockout | clearing | filing | out | free => exact .refl s

theorem State.moves_release (ref : OrderRef) : s.Moves (s.release ref).1 := by
  unfold State.release
  split
  next found => exact (State.Move.released ref found).once
  next => exact .refl s

theorem State.moves_hide (b : Byte) : s.Moves (s.hide b).1 := by
  unfold State.hide
  split
  · exact .refl s
  · dsimp only
    iterate 2
      split
      exact .refl s
    split
    · exact .refl s
    next free =>
      split
      · exact .refl s
      · exact State.moves_putLocker (.hidden (Decidable.of_not_not free))

theorem State.moves_showCmd (b : Byte) : s.Moves (s.showCmd b).1 := by
  unfold State.showCmd
  split
  · exact .refl s
  · dsimp only
    split
    · exact .refl s
    split
    · exact .refl s
    next hidden =>
      iterate 2
        split
        exact .refl s
      exact State.moves_putLocker (.shown (Decidable.of_not_not (not_or.mp hidden).1))

theorem State.moves_staffOpen (b : Byte) : s.Moves (s.staffOpen b).1 := by
  unfold State.staffOpen
  split
  · exact .refl s
  · split
    next locked => exact State.moves_toClearing locked
    next => exact .refl s

theorem State.moves_runCommand (s : State) (c : ServiceCmd) : s.Moves (s.runCommand c).1 := by
  cases c with
  | book ref code profile preferred => exact State.moves_book ref code profile preferred
  | load force refs => exact State.moves_load force refs
  | abortLoad => exact State.moves_abortLoad
  | cancel ref => exact State.moves_cancel ref
  | queryOrder | queryLocker | queryBank | fetch => exact .refl s
  | release ref => exact State.moves_release ref
  | hideLocker b => exact State.moves_hide b
  | showLocker b => exact State.moves_showCmd b
  | staffOpen b => exact State.moves_staffOpen b

end service

/-! ### The changes under the messages of the panel -/

/-- R166: the fifth miss begins the throttle. -/
theorem State.ThrottleLaw.noMatch {s : State} (h : s.ThrottleLaw) : s.noMatch.1.ThrottleLaw := by
  simp only [State.noMatch, Pnl.miss]
  split
  next fifth => exact ⟨iff_of_true rfl fifth, iff_of_true rfl rfl, Nat.min_le_left 5 _⟩
  next early =>
    have fewer : s.pnl.missCount ≠ 5 := by omega
    have off : ¬ s.pnl.throttled = true := fun on => fewer (h.misses.mp on)
    exact ⟨iff_of_false off early, h.timer, Nat.min_le_left 5 _⟩

/-- R161, R167: a claim that is set and a throttle that ends clear the miss count. -/
theorem State.ThrottleLaw.ofCleared {s : State} (misses : s.pnl.missCount = 0) (off : s.pnl.throttled = false)
    (timer : s.pnl.throttleTimer = none) : s.ThrottleLaw where
  misses := by simp [misses, off]
  timer := by simp [off, timer]
  bound := by simp [misses]

theorem State.ThrottleLaw.offer {s : State} (h : s.ThrottleLaw) (off : s.pnl.throttled = false) (n : LockerNo) :
    (s.withPnl (s.pnl.offer n)).ThrottleLaw := by
  refine .ofCleared rfl off ?_
  have idle : ¬ s.pnl.throttleTimer.isSome = true := by rw [← h.timer, off]; exact Bool.false_ne_true
  exact Option.not_isSome_iff_eq_none.mp idle

section panel
variable {s : State}

theorem State.moves_noMatch : s.Moves s.noMatch.1 := State.moves_withPnl State.ThrottleLaw.noMatch

theorem State.moves_breakClaim : s.Moves s.breakClaim := (State.moves_withOvertaken _).trans State.moves_endClaim

theorem State.moves_lookUp (off : s.pnl.throttled = false) (code : Code) : s.Moves (s.lookUp code).1 := by
  unfold State.lookUp
  split
  · exact State.moves_noMatch
  · split
    · exact State.moves_withPnl fun h => h.offer off _
    iterate 4 exact .refl s
    all_goals exact State.moves_noMatch

theorem State.moves_present (code : Code) : s.Moves (s.present code).1 := by
  unfold State.present
  split
  · exact State.moves_breakClaim
  next off =>
    exact State.moves_breakClaim.trans
      (State.moves_lookUp (s := s.breakClaim) (Bool.eq_false_of_not_eq_true off) code)

theorem State.moves_confirm (b : Byte) : s.Moves (s.confirm b).1 := by
  unfold State.confirm
  split
  · split
    next n _ named =>
      have opened : s.Moves (s.putLocker n
          { ((s.locker n).unlock .opened).switchOff with deferredCause := none }) :=
        State.moves_putLocker (.pickedUp named.2)
      exact opened.trans State.moves_endClaim
    next => exact .refl s
  · exact .refl s

theorem State.moves_presentStaff (code : Code) (b : Byte) : s.Moves (s.presentStaff code b).1 := by
  unfold State.presentStaff
  split
  · exact .refl s
  split
  · exact State.moves_noMatch
  split
  · exact .refl s
  split
  next locked => exact State.moves_toClearing locked
  next => exact .refl s

theorem State.moves_runMessage (s : State) (m : PanelMsg) : s.Moves (s.runMessage m).1 := by
  cases m with
  | present code => exact State.moves_present code
  | confirm b => exact State.moves_confirm b
  | abandon => exact State.moves_endClaim
  | presentStaff code b => exact State.moves_presentStaff code b

theorem State.moves_endThrottle : s.Moves s.endThrottle :=
  State.moves_withPnl fun _ => .ofCleared rfl rfl rfl

end panel

/-! ### The changes under the windows and the line -/

section blocks
variable {s : State}

/-- R79: at a slot boundary an output is set only where the duty is above 0. -/
theorem State.moves_enterSlot (j : Fin 16) : s.Moves (s.enterSlot j) := by
  refine State.Moves.trans (State.moves_eachLocker fun n => ?_) (State.moves_withHdf _)
  exact .switched _ fun on => by simpa using (Bool.and_eq_true_iff.mp on).2

theorem State.Moves.slotBoundary {t : State} (e : execSlotBoundary s = .next t) : s.Moves t := by
  unfold execSlotBoundary at e
  split at e
  · exact of_next (State.moves_withOvertaken _) e
  · split at e
    · split at e
      · exact of_next ((State.moves_advance _).trans (State.moves_enterSlot _)) e
      · exact of_next (.refl s) e
    · exact of_next (.refl s) e

theorem State.moves_line {h : Hbp} (moved : s.hbp.Move h) : s.Moves (s.withHbp h) := State.Move.once (.line h moved)

theorem State.Moves.arbitrationLost {t : State} (e : execArbitrationLost s = .next t) : s.Moves t :=
  of_ite_next (fun ⟨arbitrating, header, _⟩ => State.moves_line (.lost arbitrating header)) (fun _ => .refl s) e

theorem State.Moves.erroredAttempt {t : State} (cause : AttemptError) (e : execErroredAttempt cause s = .next t) :
    s.Moves t := by
  unfold execErroredAttempt at e
  split at e
  next onLine =>
    cases cause with
    | differs =>
      refine of_ite_next (fun _ => .refl s) (fun inside => State.moves_line (.errored _ onLine ?_)) e
      simp only [Bool.or_eq_true, decide_eq_true_eq, not_or] at inside
      omega
    | framing => exact of_next (State.moves_line (.malformed onLine)) e
  next => exact of_next (.refl s) e

theorem State.Moves.framingError {t : State} (e : execFramingError s = .next t) : s.Moves t := by
  refine of_ite_next (fun inFrame => ?_) (fun _ => .refl s) e
  have same : ({ s.hbp with path := .skipping } : Hbp).onLine = s.hbp.onLine := rfl
  cases onLine : s.hbp.onLine with
  | true =>
    simp only [same, onLine, if_true]
    exact State.moves_line (.malformed onLine)
  | false =>
    simp only [same, onLine, Bool.false_eq_true, if_false]
    exact State.moves_line (.skipped inFrame onLine)

/-- R133: the release hold that expires was running. -/
theorem State.moves_releaseHoldExpiry :
    s.Moves (s.onExpiry s.fsc.releaseHold releaseEnd State.releaseExpired) := by
  cases timer : s.fsc.releaseHold with
  | none => exact .refl s
  | some v =>
    have runs : (s.advance (releaseEnd - v)).fsc.releaseHold.isSome := by
      by_cases now : releaseEnd - v = 0
      · simp [now, timer]
      · simp [(s.advance_blocks now).2.1, timer]
    exact (State.moves_advance _).next (.holdEnded runs)

end blocks

/-! ### The changes under every command -/

/-- What a running part can do at a command other than a reset. -/
theorem exec_moves (c : Instr) {s t : State} (running : s.running = true) (noReset : c ≠ .reset)
    (e : exec c s = .next t) : s.Moves t := by
  have blind := State.Moves.receiptBlind s
  have none := State.Moves.refl s
  have served (u : State) (c : ServiceCmd) (before : s.Moves u) : s.Moves (u.runCommand c).1 :=
    before.trans (u.moves_runCommand c)
  have answered (u : State) (m : PanelMsg) (before : s.Moves u) : s.Moves (u.runMessage m).1 :=
    before.trans (u.moves_runMessage m)
  cases c with
  | reset => exact absurd rfl noReset
  | readCompletion image trays =>
    have awake : s.pvt.station ≠ .starting := fun starting => by
      simp [State.running, starting, Station.running] at running
    exact of_next none ((if_neg awake).symm.trans e)
  | scanEvent n sample => exact of_ite_next (fun _ => State.moves_scan n sample) (fun _ => none) e
  | timedWindowStart =>
    exact of_ite_next (fun _ => State.moves_withOvertaken _)
      (fun _ => State.moves_onExpiry _ _ fun _ => State.Move.once .timedStart) e
  | slotBoundary => exact .slotBoundary e
  | feederWarnAssertion => exact of_next (State.Move.once .warned) ((if_pos running).symm.trans e)
  | feederWarnRelease => exact of_next (State.Move.once .unwarned) ((if_pos running).symm.trans e)
  | releaseHoldExpiry => exact of_next State.moves_releaseHoldExpiry e
  | doorOpenEvent n => exact of_ite_next (fun _ => State.moves_doorOpened) (fun _ => none) e
  | doorCloseEvent n tray =>
    have shut : s.Moves (s.putLocker n ((s.locker n).shutWith tray)) := State.moves_putLocker (.shut tray)
    exact of_ite_next (fun _ => none) (fun _ => shut.trans State.moves_doorClosed) e
  | unlatchTimerExpiry n => exact of_next (State.moves_onExpiry _ _ fun u => u.moves_unlatchExpired n) e
  | ajarTimerExpiry n => exact of_next (State.moves_ajarExpiry n) e
  | attemptStart read => exact of_ite_next (fun _ => State.moves_line (.edge read)) (fun _ => none) e
  | arbitrationLost => exact .arbitrationLost e
  | erroredAttempt cause => exact .erroredAttempt cause e
  | framingError => exact .framingError e
  | frameEnd => exact of_next (State.Move.once .frameEnd) e
  | fallingEdge read => exact of_next (State.moves_line (.edge read)) e
  | present | confirm | abandon | presentStaff => exact of_next (blind.takeMessage none answered _) e
  | panelBadMessage f => exact of_next (blind.takePanelFault none f) e
  | panelFrameDropped => exact blind.panelFrameDropped none e
  | panelGapTimerExpiry =>
    exact of_ite_next (fun _ => State.moves_withOvertaken _)
      (fun _ => State.moves_onExpiry _ _ fun u => (State.Moves.receiptBlind u).panelGapExpired (.refl u)) e
  | panelResponseSent => exact of_next (blind.pnl none) e
  | claimTimerExpiry =>
    exact of_ite_next (fun _ => State.moves_withOvertaken _)
      (fun _ => State.moves_onExpiry _ _ fun _ => State.moves_endClaim) e
  | throttleTimerExpiry => exact of_next (State.moves_onExpiry _ _ fun _ => State.moves_endThrottle) e
  | panelByteReceived b framingError => exact of_next (blind.panelByte none answered b framingError) e
  | book | load | abortLoad | cancel | queryBank | fetch | release | hideLocker | staffOpen =>
    exact of_next (blind.serve none served _) e
  | queryOrder _ trays | queryLocker _ trays | showLocker _ trays =>
    exact of_next (blind.serve (State.moves_sampleTrays trays) served _) e
  | badFrame f => exact of_next (blind.serveFault none f) e
  | frameDiscarded => exact blind.frameDiscarded none e
  | gapTimerExpiry =>
    exact of_ite_next (fun _ => State.moves_withOvertaken _)
      (fun _ => State.moves_onExpiry _ _ fun u => (State.Moves.receiptBlind u).gapExpired (.refl u)) e
  | responseSent => exact of_next (State.moves_withSvl _) e
  | serviceByteReceived b framingError trays =>
    exact of_next (blind.serviceByte (State.moves_sampleTrays trays) served b framingError) e

/-- What a running part can do in one step, unless it is reset. -/
theorem step_moves {s t : State} (running : s.running = true) (noReset : s.pending.head? ≠ some .reset)
    (e : step s = .next t) : s.Moves t := by
  unfold step at e
  split at e
  · exact of_next (State.moves_advance 1) e
  next c rest queue =>
    have queued : s.Moves (s.withPending rest) :=
      State.moves_elsewhere (fun _ => rfl) rfl rfl (.ofPnl rfl rfl rfl rfl rfl)
    exact queued.trans (exec_moves c running (by simpa [queue] using noReset) e)

end Sys2Proof.Machine

/-! PROOFS. A part that does not run stands at its reset values whatever the command, until a configuration read
completes (R2, R115, R184); and the three places at which a law has to hold for every step to keep it. -/

namespace Sys2Proof.Machine

/-! ### A part that does not run -/

/-- R2, R115, R184: in STARTING and in HALTED, at the reset values. -/
structure State.Asleep (s : State) : Prop where
  stopped : s.running = false
  dormant : s.Dormant

/-- A record at its reset values but for its inputs and its lamp's clock. -/
def Locker.Dormant (l : Locker) : Prop := l = { l.afterReset with lampPhase := l.lampPhase }

/-- What the rest of a part may change while it does not run: the input levels, the lamps' clocks, the receivers and
responses of the two lines, the flags of overtaken expiries and the waiting commands. -/
theorem State.Asleep.frame {s t : State} (h : s.Asleep) (lockers : ∀ n, (t.locker n).Dormant)
    (filing : t.filing = s.filing) (slots : t.slots = s.slots) (hdf : t.hdf = s.hdf)
    (hbp : t.hbp = { s.hbp with lineIdle := t.hbp.lineIdle }) (pvt : t.pvt = s.pvt)
    (fsc : t.fsc = { s.fsc with feederWarn := t.fsc.feederWarn }) (bkc : t.bkc = s.bkc)
    (pnl : t.pnl = { s.pnl with
      receiver := t.pnl.receiver, expected := t.pnl.expected, gapTimer := t.pnl.gapTimer, kept := t.pnl.kept
      sending := t.pnl.sending })
    (ocl : t.ocl = s.ocl) (cfl : t.cfl = s.cfl)
    (rate : t.svl.rate = s.svl.rate ∧ t.svl.pendingRate = s.svl.pendingRate) : t.Asleep where
  stopped := by rw [State.running, pvt]; exact h.stopped
  dormant := {
    lockers := lockers
    filing := filing.trans h.dormant.filing
    slots := slots.trans h.dormant.slots
    hdf := hdf.trans h.dormant.hdf
    hbp := by rw [hbp, h.dormant.hbp]
    pvt := by rw [pvt]; exact h.dormant.pvt
    fsc := by rw [fsc, h.dormant.fsc]
    bkc := bkc.trans h.dormant.bkc
    claim := by rw [pnl]; exact h.dormant.claim
    claimT := by rw [pnl]; exact h.dormant.claimT
    misses := by rw [pnl]; exact h.dormant.misses
    throttle := by rw [pnl]; exact h.dormant.throttle
    throtT := by rw [pnl]; exact h.dormant.throtT
    ocl := ocl.trans h.dormant.ocl
    config := by rw [cfl]; exact h.dormant.config
    rate := by rw [rate.1, rate.2]; exact h.dormant.rate }

section asleep
variable {s : State} (h : s.Asleep)
include h

theorem State.Asleep.locker (n : LockerNo) : (s.locker n).Dormant := h.dormant.lockers n

theorem State.Asleep.out (n : LockerNo) : (s.locker n).state = .out := by
  rw [h.dormant.lockers n]
  rfl

theorem State.Asleep.tamper (n : LockerNo) : (s.locker n).tamper = false := by
  rw [h.dormant.lockers n]
  rfl

theorem State.Asleep.unlatchTimer (n : LockerNo) : (s.locker n).unlatchTimer = none := by
  rw [h.dormant.lockers n]
  rfl

theorem State.Asleep.ajarTimer (n : LockerNo) : (s.locker n).ajarTimer = none := by
  rw [h.dormant.lockers n]
  rfl

theorem State.Asleep.windowTimer : s.hdf.windowTimer = none := by
  rw [h.dormant.hdf]
  rfl

theorem State.Asleep.path : s.hbp.path = .off := by
  rw [h.dormant.hbp]
  rfl

theorem State.Asleep.sender : s.hbp.sender = .idle := by
  rw [h.dormant.hbp]
  rfl

theorem State.Asleep.releaseHold : s.fsc.releaseHold = none := by
  rw [h.dormant.fsc]
  rfl

/-- Changes of the records alone. -/
theorem State.Asleep.lockersOnly {t : State} (lockers : ∀ n, (t.locker n).Dormant)
    (rest : t = { s with lockers := t.lockers }) : t.Asleep := by
  rw [rest]
  exact h.frame lockers rfl rfl rfl rfl rfl rfl rfl rfl rfl rfl ⟨rfl, rfl⟩

theorem State.Asleep.setLocker {n : LockerNo} {l : Locker} (dormant : l.Dormant) : (s.setLocker n l).Asleep := by
  refine h.lockersOnly (fun m => ?_) rfl
  rw [State.setLocker_locker]
  split
  · exact dormant
  · exact h.locker m

theorem State.Asleep.sampleTrays (trays : Lines) : (s.sampleTrays trays).Asleep := by
  refine h.lockersOnly (fun n => ?_) rfl
  rw [State.sampleTrays, State.eachLocker_locker, h.locker n]
  rfl

theorem State.Asleep.advance (d : Nat) : (s.advance d).Asleep := by
  by_cases now : d = 0
  · rw [now, State.advance_zero]
    exact h
  · obtain ⟨hdf, fsc, pnl, svl⟩ := s.advance_blocks now
    refine h.frame (fun n => ?_) (by simp) (by simp) ?_ (by simp) (by simp) ?_ (by simp) ?_ (by simp) (by simp)
      (by simp [svl])
    · rw [State.advance_locker s now, h.locker n]
      rfl
    · rw [hdf, h.windowTimer, Timer.tick_none, ← h.windowTimer]
    · rw [fsc, h.releaseHold, Timer.tick_none, ← h.releaseHold]
    · rw [pnl, h.dormant.claimT, h.dormant.throtT, Timer.tick_none, Timer.tick_none, ← h.dormant.claimT]
      simp [h.dormant.claimT, h.dormant.throtT]

theorem State.Asleep.withOvertaken (x : Overtaken) : (s.withOvertaken x).Asleep :=
  h.frame h.locker rfl rfl rfl rfl rfl rfl rfl rfl rfl rfl ⟨rfl, rfl⟩

theorem State.Asleep.withPending (q : List Instr) : (s.withPending q).Asleep :=
  h.frame h.locker rfl rfl rfl rfl rfl rfl rfl rfl rfl rfl ⟨rfl, rfl⟩

theorem State.Asleep.withLine (idle : Bool) : (s.withHbp { s.hbp with lineIdle := idle }).Asleep :=
  h.frame h.locker rfl rfl rfl rfl rfl rfl rfl rfl rfl rfl ⟨rfl, rfl⟩

theorem State.Asleep.withFeederWarn (level : Bool) : (s.withFsc { s.fsc with feederWarn := level }).Asleep :=
  h.frame h.locker rfl rfl rfl rfl rfl rfl rfl rfl rfl rfl ⟨rfl, rfl⟩

end asleep

/-- The reset values leave the receivers and responses of the two lines free. -/
theorem State.Asleep.receiptBlind : ReceiptBlind State.Asleep where
  svl h := h.frame h.locker rfl rfl rfl rfl rfl rfl rfl rfl rfl rfl ⟨rfl, rfl⟩
  pnl h := h.frame h.locker rfl rfl rfl rfl rfl rfl rfl rfl rfl rfl ⟨rfl, rfl⟩
  overtaken h := h.withOvertaken _

/-! ### The commands to a part that does not run -/

section commands
variable {s : State} (h : s.Asleep)
include h

/-- R179: a command that is refused changes nothing. -/
theorem State.Asleep.serve (c : ServiceCmd) : (s.serve c).Asleep := by
  refine State.Asleep.receiptBlind.serviceArrival h fun u asleep => State.Asleep.receiptBlind.svl ?_
  rcases u.station_of_notRunning asleep.stopped with starting | halted
  · simpa only [State.dispatch, starting] using asleep
  · cases c <;> simpa only [State.dispatch, halted] using asleep

theorem State.Asleep.serviceByte (b : Byte) (framingError : Bool) : (s.serviceByte b framingError).Asleep := by
  have blind := State.Asleep.receiptBlind
  have restarted : s.overtakeServiceGap.Asleep := h.withOvertaken _
  simp only [State.serviceByte]
  split
  · split
    · exact blind.svl h
    · exact h
  · split
    · exact blind.serveFault h _
    · exact blind.svl restarted
  · split
    · exact blind.serveFault h _
    split
    · unfold State.serveBytes
      split
      · exact h.serve _
      · exact blind.serveFault h _
    · exact blind.svl restarted

/-- R157: so does a message. -/
theorem State.Asleep.takeMessage (m : PanelMsg) : (s.takeMessage m).Asleep := by
  refine State.Asleep.receiptBlind.panelArrival h fun u asleep => ?_
  unfold State.answerMessage
  rw [if_neg (by simp [asleep.stopped])]
  exact State.Asleep.receiptBlind.pnl asleep

theorem State.Asleep.panelByte (b : Byte) (framingError : Bool) : (s.panelByte b framingError).Asleep := by
  have blind := State.Asleep.receiptBlind
  have restarted : s.overtakePanelGap.Asleep := h.withOvertaken _
  simp only [State.panelByte]
  split
  · split
    · exact blind.pnl h
    · exact h
  · split
    · exact blind.takePanelFault h _
    · exact blind.pnl restarted
  · split
    · exact blind.takePanelFault h _
    split
    · unfold State.takePanelBytes
      split
      · exact h.takeMessage _
      · exact blind.takePanelFault h _
    · exact blind.pnl restarted

/-- R12: the doors of lockers in OUT move their inputs alone. -/
theorem State.Asleep.doorOpened (n : LockerNo) :
    ((s.setLocker n { s.locker n with doorShut := false }).doorOpened n).Asleep := by
  rw [State.doorOpened_of_out (by rw [State.setLocker_locker_same]; exact h.out n)]
  refine h.setLocker ?_
  rw [h.locker n]
  rfl

theorem State.Asleep.doorClosed (n : LockerNo) (tray : Bool) :
    ((s.putLocker n ((s.locker n).shutWith tray)).doorClosed n).Asleep := by
  have shut : (s.putLocker n ((s.locker n).shutWith tray)).locker n = ((s.locker n).shutWith tray).refresh :=
    s.putLocker_locker_same n _
  have state : (((s.locker n).shutWith tray).refresh).state = .out := h.out n
  rw [State.doorClosed_of_locked (by rw [shut, state]; rfl) (by rw [shut]; exact h.tamper n)]
  refine h.setLocker ?_
  rw [h.locker n]
  rfl

theorem State.Asleep.responseSent : (s.withSvl s.svl.responseEnd).Asleep := by
  refine h.frame h.locker rfl rfl rfl rfl rfl rfl rfl rfl rfl rfl ?_
  have standing := h.dormant.rate.2
  simp only [State.withSvl_svl, Svl.responseEnd]
  split
  · exact ⟨rfl, rfl⟩
  · simp only [standing]
    exact ⟨trivial, trivial⟩

theorem State.Asleep.slotBoundary {t : State} (e : execSlotBoundary s = .next t) : t.Asleep := by
  simp only [execSlotBoundary, h.windowTimer] at e
  split at e
  · exact of_next (h.withOvertaken _) e
  · split at e
    next => simp_all
    next => exact of_next h e

theorem State.Asleep.frameEnd : s.frameEnd.Asleep := by
  rw [State.frameEnd_of_noFrame (.inl h.path)]
  exact h.withLine true

theorem State.Asleep.fallingEdge (read : Bool) : (s.withHbp (s.hbp.edge read)).Asleep := by
  have moved : s.hbp.edge read = { s.hbp with lineIdle := false } := by simp only [Hbp.edge, h.path]
  rw [moved]
  exact h.withLine false

/-- R184: a read that fails leaves the part at its reset values. -/
theorem State.Asleep.halt (image : List Byte) (r : FaultReason) : (s.halt image r).Asleep where
  stopped := rfl
  dormant := {
    lockers := h.dormant.lockers, filing := h.dormant.filing, slots := h.dormant.slots, hdf := h.dormant.hdf
    hbp := h.dormant.hbp
    pvt := by
      have stopped : (s.halt image r).pvt = { s.pvt with station := .halted } := rfl
      rw [stopped, h.dormant.pvt]
    fsc := h.dormant.fsc, bkc := h.dormant.bkc, claim := h.dormant.claim, claimT := h.dormant.claimT
    misses := h.dormant.misses, throttle := h.dormant.throttle, throtT := h.dormant.throtT, ocl := h.dormant.ocl
    config := h.dormant.config, rate := h.dormant.rate }

end commands

/-- R183: after a reset the part is in STARTING, at its reset values. -/
theorem State.Asleep.ofReset (s : State) : s.resetPart.Asleep where
  stopped := rfl
  dormant := {
    lockers := fun n => by simp [State.resetPart, State.locker, Locker.afterReset, Locker.reset]
    filing := rfl, slots := rfl, hdf := rfl, hbp := rfl, pvt := rfl, fsc := rfl, bkc := rfl, claim := rfl
    claimT := rfl, misses := rfl, throttle := rfl, throtT := rfl, ocl := rfl, config := rfl, rate := ⟨rfl, rfl⟩ }

/-- The part wakes: it leaves STARTING, where it stood at its reset values, with an image that has passed (R185). -/
def State.Wakes (t : State) : Prop := ∃ (s : State) (image : List Byte), s.Asleep ∧ t = s.endStarting image

/-- Whatever the command, a part that does not run stays as it is or wakes. -/
theorem State.Asleep.exec {s t : State} (h : s.Asleep) (c : Instr) (e : exec c s = .next t) :
    t.Asleep ∨ t.Wakes := by
  have blind := State.Asleep.receiptBlind
  have stopped : ¬ s.running = true := by simp [h.stopped]
  cases c with
  | readCompletion image trays =>
    refine of_ite_next (P := fun t => t.Asleep ∨ t.Wakes) (fun _ => ?_) (fun _ => .inl h) e
    unfold State.readComplete
    split
    · exact .inl ((h.sampleTrays trays).halt _ _)
    · exact .inr ⟨_, _, h.sampleTrays trays, rfl⟩
  | _ => ?_
  all_goals left
  case reset => exact of_next (State.Asleep.ofReset s) e
  case scanEvent => exact of_next h ((if_neg stopped).symm.trans e)
  case timedWindowStart =>
    refine of_ite_next (fun _ => h.withOvertaken _) (fun _ => ?_) e
    rw [h.windowTimer]
    exact h
  case slotBoundary => exact h.slotBoundary e
  case feederWarnAssertion => exact of_next (h.withFeederWarn true) ((if_neg stopped).symm.trans e)
  case feederWarnRelease => exact of_next (h.withFeederWarn false) ((if_neg stopped).symm.trans e)
  case releaseHoldExpiry =>
    rw [Sys2Proof.Machine.exec, execReleaseHoldExpiry, h.releaseHold] at e
    exact of_next h e
  case doorOpenEvent n => exact of_ite_next (fun _ => h.doorOpened n) (fun _ => h) e
  case doorCloseEvent n tray => exact of_ite_next (fun _ => h) (fun _ => h.doorClosed n tray) e
  case unlatchTimerExpiry n =>
    rw [Sys2Proof.Machine.exec, execUnlatchTimerExpiry, h.unlatchTimer] at e
    exact of_next h e
  case ajarTimerExpiry n =>
    rw [Sys2Proof.Machine.exec, execAjarTimerExpiry, h.ajarTimer] at e
    exact of_next h e
  case attemptStart =>
    have off : s.hbp.path ≠ .ready := by simp [h.path]
    exact of_next h ((if_neg fun ready => off ready.1).symm.trans e)
  case arbitrationLost =>
    have silent : s.hbp.sender ≠ .arbitrating := by simp [h.sender]
    exact of_next h ((if_neg fun lost => silent lost.1).symm.trans e)
  case erroredAttempt =>
    have offLine : ¬ s.hbp.onLine = true := by simp [Hbp.onLine, h.sender]
    exact of_next h ((if_neg offLine).symm.trans e)
  case framingError =>
    have off : s.hbp.path ≠ .inFrame := by simp [h.path]
    exact of_next h ((if_neg off).symm.trans e)
  case frameEnd => exact of_next h.frameEnd e
  case fallingEdge read => exact of_next (h.fallingEdge read) e
  case present | confirm | abandon | presentStaff => exact of_next (h.takeMessage _) e
  case panelBadMessage f => exact of_next (blind.takePanelFault h f) e
  case panelFrameDropped => exact blind.panelFrameDropped h e
  case panelGapTimerExpiry =>
    exact of_ite_next (fun _ => h.withOvertaken _) (fun _ => s.onExpiry_keeps _ _ _ h (fun d g => g.advance d)
      fun _ g => blind.panelGapExpired g) e
  case panelResponseSent => exact of_next (blind.pnl h) e
  case claimTimerExpiry =>
    refine of_ite_next (fun _ => h.withOvertaken _) (fun _ => ?_) e
    rw [h.dormant.claimT]
    exact h
  case throttleTimerExpiry =>
    rw [Sys2Proof.Machine.exec, execThrottleTimerExpiry, h.dormant.throtT] at e
    exact of_next h e
  case panelByteReceived b framingError => exact of_next (h.panelByte b framingError) e
  case book | load | abortLoad | cancel | queryBank | fetch | release | hideLocker | staffOpen =>
    exact of_next (h.serve _) e
  case queryOrder | queryLocker | showLocker => exact of_next ((h.sampleTrays _).serve _) e
  case badFrame f => exact of_next (blind.serveFault h f) e
  case frameDiscarded => exact blind.frameDiscarded h e
  case gapTimerExpiry =>
    exact of_ite_next (fun _ => h.withOvertaken _) (fun _ => s.onExpiry_keeps _ _ _ h (fun d g => g.advance d)
      fun _ g => blind.gapExpired g) e
  case responseSent => exact of_next h.responseSent e
  case serviceByteReceived b framingError trays =>
    exact of_next ((h.sampleTrays trays).serviceByte b framingError) e

theorem State.Asleep.step {s t : State} (h : s.Asleep) (e : step s = .next t) : t.Asleep ∨ t.Wakes := by
  unfold Sys2Proof.Machine.step at e
  split at e
  · exact of_next (P := fun t => t.Asleep ∨ t.Wakes) (.inl (h.advance 1)) e
  · exact (h.withPending _).exec _ e

/-! ### What every step keeps -/

/-- R98 to R100: a frame end writes HBP, and where it checks a frame, PVT takes it. -/
theorem State.frameEnd_cases {P : State → Prop} {s : State} (kept : ∀ h, P (s.withHbp h))
    (checked : ∀ h, P (s.withHbp h).checkFrame) : P s.frameEnd := by
  simp only [State.frameEnd]
  split
  · exact kept _
  · exact kept _
  · exact kept _
  · exact kept _
  split
  · split
    · exact kept _
    · exact checked _
  · exact checked _

theorem State.checkFrame_station (s : State) : s.checkFrame.pvt.station = s.pvt.station := by
  unfold State.checkFrame
  split
  · exact Pvt.takeFrame_station ..
  · rfl

theorem State.frameEnd_station (s : State) : s.frameEnd.pvt.station = s.pvt.station :=
  State.frameEnd_cases (P := fun t => t.pvt.station = s.pvt.station) (fun _ => rfl) fun _ => State.checkFrame_station _

/-- No single change wakes or stops a running part, or touches CFL. -/
theorem State.Move.keepsRunning {s t : State} (move : s.Move t) : t.running = s.running ∧ t.cfl = s.cfl := by
  cases move with
  | lockers records filing ocl ports => exact ⟨ports.running, ports.cfl⟩
  | lockedOut | collected | released | assigned | freed | line | warned | unwarned | holdEnded =>
    exact ⟨by simp, by simp⟩
  | frameEnd => exact ⟨by rw [State.running, State.frameEnd_station, State.running], by simp⟩
  | timedStart => exact ⟨by rw [State.running, State.timedStart_pvt, Pvt.windowStart_running, State.running], by simp⟩

/-- What every single change of a running part keeps, any number of them keeps. -/
theorem State.Moves.keeps {P : State → Prop} (moved : ∀ s t : State, s.running = true → s.Move t → P s → P t)
    {s t : State} (running : s.running = true) (h : P s) (moves : s.Moves t) : t.running = true ∧ P t := by
  induction moves with
  | refl => exact ⟨running, h⟩
  | tail _ move before =>
    obtain ⟨stillRunning, holds⟩ := before
    exact ⟨move.keepsRunning.1.trans stillRunning, moved _ _ stillRunning move holds⟩

/-- A law is kept by every step where it holds of every part that does not run and of every part that wakes, and every
single change of a running part keeps it. -/
theorem step_keepsLaw {P : State → Prop} (asleep : ∀ s : State, s.Asleep → P s)
    (woken : ∀ (s : State) image, s.Asleep → P (s.endStarting image))
    (moved : ∀ s t : State, s.running = true → s.Move t → P s → P t) {s t : State} (station : s.StationLaw) (h : P s)
    (e : step s = .next t) : P t := by
  have slept (outcome : t.Asleep ∨ t.Wakes) : P t := by
    rcases outcome with still | ⟨u, image, still, rfl⟩
    · exact asleep t still
    · exact woken u image still
  cases running : s.running with
  | false => exact slept (State.Asleep.step ⟨running, station.dormant running⟩ e)
  | true =>
    by_cases reset : s.pending.head? = some .reset
    · obtain ⟨rest, queue⟩ := List.head?_eq_some_iff.mp reset
      simp only [step, queue] at e
      exact of_next (asleep _ (State.Asleep.ofReset _)) e
    · exact (State.Moves.keeps moved running h (step_moves running reset e)).2

/-- The station law itself is such a law. -/
theorem State.StationLaw.step {s t : State} (h : s.StationLaw) (e : step s = .next t) : t.StationLaw := by
  refine step_keepsLaw (fun s asleep => ⟨fun _ => asleep.dormant, fun running => ?_⟩) (fun s image _ => ⟨?_, ?_⟩)
    (fun s t running move law => ⟨?_, fun _ => ?_⟩) h h e
  · exact absurd running (by simp [asleep.stopped])
  · simp [State.running, Station.running]
  · simp
  · simp [move.keepsRunning.1, running]
  · rw [move.keepsRunning.2]
    exact law.configured running

end Sys2Proof.Machine

/-! PROOFS. The laws of one locker record, which every step keeps: the latch law, the cause law, and the heaters of
eligible lockers (R1, R4 to R6, R9, R10, R12, R79). -/

namespace Sys2Proof.Machine

/-! ### Records at the end of a booking, and at the beginning of one -/

/-- What becomes of a record whose booking ends, has ended or begins. -/
inductive Locker.BookingMove (l : Locker) : Locker → Prop
  | lockedOutFiled (m : Locker) (c : Cause) (same : l.SameButDoor m) :
      l.BookingMove (m.lockOut c).clearBooking.refresh
  | lockedOutQueued (m : Locker) (c : Cause) (same : l.SameButDoor m) :
      l.BookingMove { m.lockOut c with recordPending := true }.refresh
  | collectedFiled (opened : l.state = .opened) :
      l.BookingMove { l.relock with state := .free, deferredCause := none }.clearBooking.refresh
  | collectedQueued (opened : l.state = .opened) :
      l.BookingMove { l.relock with state := .filing, deferredCause := none, recordPending := true }.refresh
  | filed (other : l.state ≠ .filing) : l.BookingMove { l.clearBooking with recordPending := false }.refresh
  | filedFree (filing : l.state = .filing) :
      l.BookingMove { l.clearBooking with recordPending := false, state := .free, lockoutCause := none }.refresh
  | assigned (ref : OrderRef) (code : Code) (profile : Option ProfileNo) (free : l.state = .free) :
      l.BookingMove { l with
        state := .booked, orderRef := some ref, pickupCode := some code, profile := profile
        loadedCold := false }.refresh
  | freed (booked : l.state = .booked) : l.BookingMove { l.clearBooking.switchOff with state := .free }.refresh

/-! ### Records at a window start (R71 to R79) -/

/-- R71, R74: the snapshot writes the call, the class and the request, which is above 0 for eligible lockers alone. -/
theorem State.callLocker_eq (s : State) (l : Locker) : ∃ call cls request,
    s.callLocker l = { l with call := call, cls := cls, request := request }
      ∧ (0 < request → l.eligible s.cfg.overtemp = true) := by
  unfold State.callLocker
  split
  · exact ⟨_, _, _, rfl, fun above => absurd above (Nat.lt_irrefl 0)⟩
  · split
    next eligible => exact ⟨_, _, _, rfl, fun _ => eligible⟩
    next => exact ⟨_, _, _, rfl, fun above => absurd above (Nat.lt_irrefl 0)⟩

/-- R77: a duty is granted only where there is a request. -/
theorem State.request_of_duty (s : State) (budget : Nat) {n : LockerNo}
    (granted : 0 < dutyIn (fill budget (fillOrder s.fillItems)) n) : 0 < (s.locker n).request := by
  by_contra none
  have absent : n ∉ (fill budget (fillOrder s.fillItems)).map Grant.locker := by
    rw [fill_lockers, ((fillOrder_perm _).map _).mem_iff, State.fillItems_lockers]
    simpa using none
  rw [dutyIn_of_notMem absent] at granted
  exact Nat.lt_irrefl 0 granted

/-- R76 to R79: what a window start writes into a record. -/
theorem State.WindowPlanned.record {s t : State} {a : Nat} (planned : s.WindowPlanned t a) (n : LockerNo) :
    (s.locker n).Move s.cfg.overtemp (t.locker n) := by
  obtain ⟨call, cls, request, called, eligible⟩ := s.callLocker_eq (s.locker n)
  rw [planned.lockers n, called]
  refine .planned call cls request _ _ (fun granted => eligible ?_)
    fun on => by simpa using (Bool.and_eq_true_iff.mp on).2
  have above := s.setCalls.request_of_duty _ granted
  rwa [State.setCalls_locker, called] at above

/-- R131: an assertion writes the records only with the shed start that it brings in CLEAR. -/
theorem State.warnAsserted_record (s : State) (n : LockerNo) :
    s.warnAsserted.locker n = s.locker n ∨ (s.locker n).Move s.cfg.overtemp (s.warnAsserted.locker n) := by
  cases shed : s.fsc.shed with
  | clear =>
    have planned := State.shedStart_windowPlanned (s := s) (u := s.withFsc { s.fsc with shed := .warned })
      (fun _ => rfl) rfl rfl
    rw [State.warnAsserted_of_clear shed]
    exact .inr (planned.record n)
  | warned | releasing | liftDue =>
    left
    simp only [State.warnAsserted, shed, State.withFsc_locker]

theorem State.warnReleased_locker (s : State) (n : LockerNo) : s.warnReleased.locker n = s.locker n := by
  unfold State.warnReleased
  split <;> rfl

/-! ### What a change does to a record -/

/-- An end of a booking in a lockout, by the room in OCL. -/
theorem State.endInLockout_record (s : State) (n : LockerNo) (l : Locker) (c : Cause) (e : BookingEnd)
    (same : (s.locker n).SameButDoor l) :
    (s.locker n).BookingMove (((s.setLocker n l).endInLockout n c e).locker n) := by
  have record : (s.setLocker n l).locker n = l := s.setLocker_locker_same n l
  by_cases room : s.ocl.records.length < 8
  · rw [State.endInLockout_of_room (s.setLocker n l) n c e room, record, State.withPnl_locker, State.withOcl_locker,
      State.putLocker_locker_same]
    exact .lockedOutFiled l c same
  · rw [State.endInLockout_of_full (s.setLocker n l) n c e (Nat.le_of_not_lt room), record, State.withPnl_locker,
      State.withFiling_locker, State.putLocker_locker_same]
    exact .lockedOutQueued l c same

theorem State.endCollected_record (s : State) (n : LockerNo) (opened : (s.locker n).state = .opened) :
    (s.locker n).BookingMove ((s.endCollected n).locker n) := by
  by_cases room : s.ocl.records.length < 8
  · rw [State.endCollected_of_room s n room, State.withOcl_locker, State.putLocker_locker_same]
    exact .collectedFiled opened
  · rw [State.endCollected_of_full s n (Nat.le_of_not_lt room), State.withFiling_locker, State.putLocker_locker_same]
    exact .collectedQueued opened

/-- R31: a record that is filed from the queue, by the state of its locker. -/
theorem State.fileFromQueue_cons (s : State) {e : FilingEntry} {rest : List FilingEntry} (head : s.filing = e :: rest) :
    s.fileFromQueue = ((s.putLocker e.locker (if (s.locker e.locker).state = .filing
        then { (s.locker e.locker).clearBooking with recordPending := false, state := .free, lockoutCause := none }
        else { (s.locker e.locker).clearBooking with recordPending := false })).withFiling rest).withOcl
      (s.ocl.file e.record) := by
  unfold State.fileFromQueue
  rw [head]
  rfl

theorem State.fileFromQueue_record (s : State) (n : LockerNo) :
    s.fileFromQueue.locker n = s.locker n ∨ (s.locker n).BookingMove (s.fileFromQueue.locker n) := by
  cases queue : s.filing with
  | nil => exact .inl (by rw [State.fileFromQueue_nil s queue])
  | cons e rest =>
    rw [State.fileFromQueue_cons s queue, State.withOcl_locker, State.withFiling_locker, State.putLocker_locker]
    split
    next same =>
      subst same
      right
      split
      next filing => exact .filedFree filing
      next other => exact .filed other
    next => exact .inl rfl

/-- Whatever a running part does, each record stays, moves, or has its booking end or begin. -/
theorem State.Move.record {s t : State} (move : s.Move t) (n : LockerNo) : t.locker n = s.locker n
    ∨ (s.locker n).Move s.cfg.overtemp (t.locker n) ∨ (s.locker n).BookingMove (t.locker n) := by
  cases move with
  | lockers records => exact (records n).imp_right .inl
  | lockedOut m l c e same =>
    by_cases named : n = m
    · subst named
      exact .inr (.inr (s.endInLockout_record n l c e same))
    · exact .inl (by rw [State.endInLockout_other _ _ _ named, State.setLocker_locker_other _ _ named])
  | collected m opened =>
    by_cases named : n = m
    · subst named
      exact .inr (.inr (s.endCollected_record n opened))
    · exact .inl (State.endCollected_other _ named)
  | released ref => exact (State.fileFromQueue_record (s.withOcl (s.ocl.remove ref)) n).imp_right .inr
  | assigned m ref code profile free =>
    rw [State.assign, State.putLocker_locker]
    split
    next same =>
      subst same
      exact .inr (.inr (.assigned ref code _ free))
    next => exact .inl rfl
  | freed m booked =>
    rw [State.freeBooked, State.putLocker_locker]
    split
    next same =>
      subst same
      exact .inr (.inr (.freed booked))
    next => exact .inl rfl
  | line | holdEnded => exact .inl rfl
  | unwarned => exact .inl (State.warnReleased_locker _ n)
  | frameEnd => exact .inl (s.frameEnd_locker n)
  | timedStart => exact .inr (.inl (s.timedStart_windowPlanned.record n))
  | warned => exact (State.warnAsserted_record (s.withFsc { s.fsc with feederWarn := true }) n).imp_right .inl

/-! ### Laws of one record -/

/-- A law of the lockers' records, which may go by the overtemperature limit, is kept by every step where it holds of a
record at its reset values and of one that is set up, and every change of a record keeps it. -/
theorem step_keepsRecordLaw {Q : Nat → Locker → Prop} (dormant : ∀ overtemp (l : Locker), l.Dormant → Q overtemp l)
    (setUp : ∀ overtemp (l : Locker) hidden, l.Dormant → Q overtemp (l.setUp hidden))
    (moved : ∀ overtemp l m, l.Move overtemp m → Q overtemp l → Q overtemp m)
    (booking : ∀ overtemp l m, l.BookingMove m → Q overtemp l → Q overtemp m)
    {s t : State} (station : s.StationLaw) (h : ∀ n, Q s.cfg.overtemp (s.locker n)) (e : step s = .next t)
    (n : LockerNo) :
    Q t.cfg.overtemp (t.locker n) := by
  refine step_keepsLaw (P := fun s => ∀ n, Q s.cfg.overtemp (s.locker n))
    (fun s asleep n => dormant _ _ (asleep.locker n)) (fun s image asleep n => ?_)
    (fun s t _ move law n => ?_) station h e n
  · rw [State.endStarting_locker]
    exact setUp _ _ _ (asleep.locker n)
  · have cfg : t.cfg = s.cfg := by rw [State.cfg, State.cfg, move.keepsRunning.2]
    rw [cfg]
    rcases move.record n with same | record | record
    · rw [same]
      exact law n
    · exact moved _ _ _ record (law n)
    · exact booking _ _ _ record (law n)

/-! ### The latch law (R4, R5, R9, R10, R12) -/

/-- A record that is locked, brought to its pattern. -/
theorem Locker.LatchLaw.ofLocked {l : Locker} (state : l.state.releasedState = false) (latch : l.latch = .locked)
    (unlatch : l.unlatchTimer = none) (ajarT : l.ajarTimer = none) (ajar : l.ajar = false) : l.refresh.LatchLaw where
  latch := iff_of_false (by simp [Locker.refresh, latch]) (by simp [state])
  indicator := rfl
  unlatch runs := absurd runs (by simp [Locker.refresh, unlatch])
  ajarT runs := absurd runs (by simp [Locker.refresh, ajarT])
  ajar set := absurd set (by simp [Locker.refresh, ajar])
  tamper _ := latch

/-- A record that is released, brought to its pattern. -/
theorem Locker.LatchLaw.ofReleased {l : Locker} (state : l.state.releasedState = true) (latch : l.latch = .released)
    (tamper : l.tamper = false) : l.refresh.LatchLaw where
  latch := iff_of_true latch state
  indicator := rfl
  unlatch _ := state
  ajarT _ := state
  ajar _ := state
  tamper set := absurd set (by simp [Locker.refresh, tamper])

/-- A change that keeps the state and the latch, starts no timer and sets no flag. -/
theorem Locker.LatchLaw.same {l m : Locker} (h : l.LatchLaw) (state : m.state = l.state) (latch : m.latch = l.latch)
    (indicator : m.indicator = m.pattern) (unlatch : m.unlatchTimer.isSome → l.unlatchTimer.isSome)
    (ajarT : m.ajarTimer.isSome → l.ajarTimer.isSome) (ajar : m.ajar = true → l.ajar = true)
    (tamper : m.tamper = true → l.tamper = true) : m.LatchLaw where
  latch := by rw [latch, state]; exact h.latch
  indicator := indicator
  unlatch runs := by rw [state]; exact h.unlatch (unlatch runs)
  ajarT runs := by rw [state]; exact h.ajarT (ajarT runs)
  ajar set := by rw [state]; exact h.ajar (ajar set)
  tamper set := by rw [latch]; exact h.tamper (tamper set)

/-- A locked record that changes and stays locked: it has no timer and no ajar flag to lose. -/
theorem Locker.LatchLaw.stayLocked {l m : Locker} (h : l.LatchLaw) (before : l.state.releasedState = false)
    (after : m.state.releasedState = false) (latch : m.latch = l.latch) (unlatch : m.unlatchTimer = l.unlatchTimer)
    (ajarT : m.ajarTimer = l.ajarTimer) (ajar : m.ajar = l.ajar) : m.refresh.LatchLaw := by
  have locked : ¬ l.state.releasedState = true := by simp [before]
  refine .ofLocked after ?_ ?_ ?_ ?_
  · rw [latch]
    cases standing : l.latch with
    | locked => rfl
    | released => exact absurd (h.latch.mp standing) locked
  · rw [unlatch]
    exact Option.not_isSome_iff_eq_none.mp fun runs => locked (h.unlatch runs)
  · rw [ajarT]
    exact Option.not_isSome_iff_eq_none.mp fun runs => locked (h.ajarT runs)
  · rw [ajar]
    exact Bool.eq_false_of_not_eq_true fun set => locked (h.ajar set)

/-- R4 to R12: every change of a record keeps its latch law: it relocks, releases the latch, or leaves latch and state
as they are. -/
theorem Locker.LatchLaw.move {overtemp : Nat} {l m : Locker} (move : l.Move overtemp m) (h : l.LatchLaw) :
    m.LatchLaw := by
  cases move with
  | time d =>
    exact h.same rfl rfl h.indicator (by simp [Locker.tick]) (by simp [Locker.tick]) id id
  | tray | sampled | deferred | switched | planned => exact h.same rfl rfl h.indicator id id id id
  | reported x => split <;> exact h.same rfl rfl h.indicator id id id id
  | supervised floor =>
    unfold Locker.supervise
    split <;> exact h.same rfl rfl h.indicator id id id id
  | unlatchIdle => exact h.same rfl rfl h.indicator nofun id id id
  | leftAjar timer =>
    have state := h.ajarT timer
    exact .ofReleased state (h.released state) (h.tamper_of_released state)
  | openedOut out => exact h.same rfl rfl h.indicator id id id id
  | forced state =>
    have locked : l.state.releasedState = false := by rcases state with state | state | state <;> rw [state] <;> rfl
    exact h.stayLocked locked locked rfl rfl rfl rfl
  | forcedBooked booked =>
    have locked : l.state.releasedState = false := by rw [booked]; rfl
    exact h.stayLocked locked locked rfl rfl rfl rfl
  | openedReleased state =>
    have released : l.state.releasedState = true := by rcases state with state | state | state <;> rw [state] <;> rfl
    exact .ofReleased released (h.released released) (h.tamper_of_released released)
  | shut tray => exact h.same rfl rfl rfl id nofun nofun id
  | untampered => exact h.same rfl rfl rfl id id id nofun
  | foreign | held | rebooked | reheld | relocked | emptied | cleared => exact .ofLocked rfl rfl rfl rfl rfl
  | loading | pickedUp | clearing => exact .ofReleased rfl rfl rfl
  | hidden free => exact h.stayLocked (by rw [free]; rfl) rfl rfl rfl rfl rfl
  | shown out => exact h.stayLocked (by rw [out]; rfl) rfl rfl rfl rfl rfl

theorem Locker.LatchLaw.booking {l m : Locker} (move : l.BookingMove m) (h : l.LatchLaw) : m.LatchLaw := by
  cases move with
  | lockedOutFiled | lockedOutQueued | collectedFiled | collectedQueued => exact .ofLocked rfl rfl rfl rfl rfl
  | filed => exact h.same rfl rfl rfl id id id id
  | filedFree state | assigned _ _ _ state | freed state =>
    exact h.stayLocked (by rw [state]; rfl) rfl rfl rfl rfl rfl

/-- R2: at its reset values a record is locked and dark. -/
theorem Locker.Dormant.latchLaw {l : Locker} (h : l.Dormant) : l.LatchLaw := by
  rw [h]
  exact ⟨iff_of_false nofun nofun, rfl, nofun, nofun, nofun, nofun⟩

/-- R3: a locker is set up locked. -/
theorem Locker.Dormant.setUp_latchLaw {l : Locker} (h : l.Dormant) (hidden : Bool) : (l.setUp hidden).LatchLaw := by
  rw [h]
  unfold Locker.setUp
  split
  · exact .ofLocked rfl rfl rfl rfl rfl
  split <;> exact .ofLocked rfl rfl rfl rfl rfl

/-- Settles O54: the station law, and the latch law record by record; the pattern, the lamp and the write of a record by
their definitions. -/
theorem everyStepKeepsStationAndLatchLaws : Obligations.EveryStepKeepsStationAndLatchLaws := by
  unfold Obligations.EveryStepKeepsStationAndLatchLaws
  refine ⟨fun s t station e => ⟨station.step e, fun law => ?_⟩, fun l => ?_⟩
  · exact step_keepsRecordLaw (Q := fun _ => Locker.LatchLaw) (fun _ _ dormant => dormant.latchLaw)
      (fun _ _ hidden dormant => dormant.setUp_latchLaw hidden) (fun _ _ _ => Locker.LatchLaw.move)
      (fun _ _ _ => Locker.LatchLaw.booking) station law e
  · refine ⟨?_, Locker.refresh_self, fun differs => ?_, fun s n => ⟨rfl, rfl, s.setLocker_locker_same n l,
      fun m other => s.setLocker_locker_other l other⟩, ?_, ?_, ?_, ?_⟩
    · unfold Locker.pattern
      cases l.state <;> rfl
    · rw [Locker.refresh, if_neg differs]
    all_goals
      intro shown
      simp [Locker.lampLit, shown]

/-! ### The cause law (R1) -/

section causeLaw
variable {l : Locker}

/-- A record in no state of a lockout, without causes. -/
theorem Locker.CauseLaw.ofNone (lockout : l.state ≠ .lockout) (clearing : l.state ≠ .clearing)
    (cause : l.lockoutCause = none) (deferred : l.deferredCause.isSome → l.state = .opened) : l.CauseLaw where
  present state := absurd state (by simp [lockout, clearing])
  absent some := absurd some (by simp [cause])
  deferred := deferred

/-- A record in a lockout. -/
theorem Locker.CauseLaw.ofLockout (state : l.state = .lockout ∨ l.state = .clearing) (cause : l.lockoutCause.isSome)
    (deferred : l.deferredCause = none) : l.CauseLaw where
  present _ := cause
  absent _ := state.imp_right .inl
  deferred some := absurd some (by simp [deferred])

variable (h : l.CauseLaw)
include h

theorem Locker.CauseLaw.same {m : Locker} (state : m.state = l.state) (cause : m.lockoutCause = l.lockoutCause)
    (deferred : m.deferredCause = l.deferredCause) : m.CauseLaw where
  present := by rw [state, cause]; exact h.present
  absent := by rw [state, cause]; exact h.absent
  deferred := by rw [state, deferred]; exact h.deferred

/-- R1: outside a lockout and FILING there is no lockout cause. -/
theorem Locker.CauseLaw.cause_none (state : l.state = .out ∨ l.state = .free ∨ l.state = .booked ∨ l.state = .loading
    ∨ l.state = .holding ∨ l.state = .opened) : l.lockoutCause = none := by
  refine Option.not_isSome_iff_eq_none.mp fun some => ?_
  rcases h.absent some with other | other | other <;> simp [other] at state

/-- R1: outside OPEN there is no deferred cause. -/
theorem Locker.CauseLaw.deferred_none (state : l.state ≠ .opened) : l.deferredCause = none :=
  Option.not_isSome_iff_eq_none.mp fun some => state (h.deferred some)

end causeLaw

/-- R1, R19, R22, R25, R27: every change of a record keeps its cause law. -/
theorem Locker.CauseLaw.move {overtemp : Nat} {l m : Locker} (move : l.Move overtemp m) (h : l.CauseLaw) :
    m.CauseLaw := by
  cases move with
  | time | tray | sampled | unlatchIdle | leftAjar | openedOut | forced | forcedBooked | openedReleased | shut
  | untampered | switched | planned => exact h.same rfl rfl rfl
  | reported x => split <;> exact h.same rfl rfl rfl
  | supervised floor =>
    unfold Locker.supervise
    split <;> exact h.same rfl rfl rfl
  | deferred c opened => exact ⟨h.present, h.absent, fun _ => opened⟩
  | foreign => exact .ofLockout (.inl rfl) rfl rfl
  | loading _ state | held state | rebooked state | hidden state | shown state =>
    have none := h.deferred_none (by simp [state])
    exact .ofNone nofun nofun (h.cause_none (by simp [state])) fun some => absurd some (by simp [Locker.refresh,
      Locker.switchOff, Locker.unlock, Locker.relock, Locker.startHold, none])
  | reheld state none =>
    exact .ofNone nofun nofun (h.cause_none (by simp [state])) fun some => absurd some (by simp [Locker.refresh,
      Locker.relock, none])
  | pickedUp state => exact .ofNone nofun nofun (h.cause_none (by simp [state])) nofun
  | clearing state => exact .ofLockout (.inr rfl) (h.present (.inl state)) (h.deferred_none (by simp [state]))
  | relocked state => exact .ofLockout (.inl rfl) (h.present (.inr state)) (h.deferred_none (by simp [state]))
  | emptied state =>
    refine ⟨nofun, fun _ => .inr (.inr rfl), fun some => ?_⟩
    exact absurd (h.deferred some) (by simp [state])
  | cleared state =>
    refine .ofNone nofun nofun rfl fun some => ?_
    exact absurd (h.deferred some) (by simp [state])

theorem Locker.CauseLaw.booking {l m : Locker} (move : l.BookingMove m) (h : l.CauseLaw) : m.CauseLaw := by
  cases move with
  | lockedOutFiled | lockedOutQueued => exact .ofLockout (.inl rfl) rfl rfl
  | collectedFiled state => exact .ofNone nofun nofun (h.cause_none (by simp [state])) nofun
  | collectedQueued state => exact ⟨nofun, fun _ => .inr (.inr rfl), nofun⟩
  | filed => exact h.same rfl rfl rfl
  | filedFree state =>
    refine .ofNone nofun nofun rfl fun some => ?_
    exact absurd (h.deferred some) (by simp [state])
  | assigned _ _ _ state | freed state =>
    refine .ofNone nofun nofun (h.cause_none (by simp [state])) fun some => ?_
    exact absurd (h.deferred some) (by simp [state])

theorem Locker.Dormant.causeLaw {l : Locker} (h : l.Dormant) : l.CauseLaw := by
  rw [h]
  exact .ofNone nofun nofun rfl nofun

/-- R3: a tray found at the set-up locks out for RESTART. -/
theorem Locker.Dormant.setUp_causeLaw {l : Locker} (h : l.Dormant) (hidden : Bool) : (l.setUp hidden).CauseLaw := by
  rw [h]
  unfold Locker.setUp
  split
  · exact .ofNone nofun nofun rfl nofun
  split
  · exact .ofLockout (.inl rfl) rfl rfl
  · exact .ofNone nofun nofun rfl nofun

/-- The cause law is a law of each record. -/
theorem State.CauseLaw.step {s t : State} (station : s.StationLaw) (h : s.CauseLaw) (e : step s = .next t) :
    t.CauseLaw :=
  step_keepsRecordLaw (Q := fun _ => Locker.CauseLaw) (fun _ _ dormant => dormant.causeLaw)
    (fun _ _ hidden dormant => dormant.setUp_causeLaw hidden) (fun _ _ _ => Locker.CauseLaw.move)
    (fun _ _ _ => Locker.CauseLaw.booking) station h e

/-! ### The heat law (R6, R79, R80) -/

/-- R79: the heat law of one record, under an overtemperature limit. -/
def Locker.HeatLaw (overtemp : Nat) (l : Locker) : Prop :=
  l.heaterOn = true ∨ 0 < l.duty → l.eligible overtemp = true

section heatLaw
variable {overtemp : Nat} {l : Locker}

theorem Locker.HeatLaw.ofOff (off : l.heaterOn = false) (duty : l.duty = 0) : l.HeatLaw overtemp := fun hot =>
  absurd hot (by simp [off, duty])

variable (h : l.HeatLaw overtemp)
include h

theorem Locker.HeatLaw.same {m : Locker} (eligible : m.eligible overtemp = l.eligible overtemp)
    (heater : m.heaterOn = l.heaterOn) (duty : m.duty = l.duty) : m.HeatLaw overtemp := by
  rw [Locker.HeatLaw, eligible, heater, duty]
  exact h

/-- R6: a record that is in no heatable state is off, and stays off without its heater or its duty being written. -/
theorem Locker.HeatLaw.stayOff {m : Locker} (state : l.state.heatable = false) (heater : m.heaterOn = l.heaterOn)
    (duty : m.duty = l.duty) : m.HeatLaw overtemp := by
  have off : ¬ (l.heaterOn = true ∨ 0 < l.duty) := fun hot => by simpa [Locker.eligible, state] using h hot
  exact fun hot => absurd (by rwa [heater, duty] at hot) off

end heatLaw

/-- R63, R79, R80: every change of a record keeps its heat law. -/
theorem Locker.HeatLaw.move {overtemp : Nat} {l m : Locker} (move : l.Move overtemp m) (h : l.HeatLaw overtemp) :
    m.HeatLaw overtemp := by
  cases move with
  | time | tray | deferred | unlatchIdle | leftAjar | untampered => exact h.same rfl rfl rfl
  | supervised floor =>
    unfold Locker.supervise
    split <;> exact h.same rfl rfl rfl
  | sampled x notBooked notHolding =>
    refine h.stayOff ?_ rfl rfl
    cases state : l.state with
    | booked => exact absurd state notBooked
    | holding => exact absurd state notHolding
    | out | free | loading | opened | lockout | clearing | filing => rfl
  | reported x =>
    split
    next eligible =>
      intro hot
      have before := h hot
      simp only [Locker.eligible, Bool.and_eq_true] at before ⊢
      exact ⟨before.1, eligible⟩
    next => exact .ofOff rfl rfl
  | shut tray =>
    intro hot
    have before := h hot
    simp only [Locker.eligible, Bool.and_eq_true] at before ⊢
    obtain ⟨⟨heatable, -⟩, reading⟩ := before
    exact ⟨⟨heatable, rfl⟩, reading⟩
  | openedOut state | held state | rebooked state | reheld state | clearing state | relocked state | emptied state
  | cleared state | hidden state | shown state => exact h.stayOff (by rw [state]; rfl) rfl rfl
  | forced state | openedReleased state =>
    exact h.stayOff (by rcases state with state | state | state <;> rw [state] <;> rfl) rfl rfl
  | forcedBooked | foreign | loading | pickedUp => exact .ofOff rfl rfl
  | switched on due => exact fun hot => h (.inr (hot.elim due id))
  | planned call cls request duty on eligible placed => exact fun hot => eligible (hot.elim placed id)

theorem Locker.HeatLaw.booking {overtemp : Nat} {l m : Locker} (move : l.BookingMove m) (h : l.HeatLaw overtemp) :
    m.HeatLaw overtemp := by
  cases move with
  | lockedOutFiled | lockedOutQueued | freed => exact .ofOff rfl rfl
  | collectedFiled state | collectedQueued state | filedFree state | assigned _ _ _ state =>
    exact h.stayOff (by rw [state]; rfl) rfl rfl
  | filed => exact h.same rfl rfl rfl

theorem Locker.Dormant.heatLaw {l : Locker} (h : l.Dormant) (overtemp : Nat) : l.HeatLaw overtemp := by
  rw [h]
  exact .ofOff rfl rfl

theorem Locker.Dormant.setUp_heatLaw {l : Locker} (h : l.Dormant) (overtemp : Nat) (hidden : Bool) :
    (l.setUp hidden).HeatLaw overtemp := by
  rw [h]
  unfold Locker.setUp
  split
  · exact .ofOff rfl rfl
  split <;> exact .ofOff rfl rfl

/-- Settles O58: the heat law is a law of each record. -/
theorem everyStepKeepsHeatLaw : Obligations.EveryStepKeepsHeatLaw := by
  unfold Obligations.EveryStepKeepsHeatLaw
  intro s t station h e
  exact step_keepsRecordLaw (Q := Locker.HeatLaw) (fun overtemp _ dormant => dormant.heatLaw overtemp)
    (fun overtemp _ hidden dormant => dormant.setUp_heatLaw overtemp hidden) (fun _ _ _ => Locker.HeatLaw.move)
    (fun _ _ _ => Locker.HeatLaw.booking) station h e

end Sys2Proof.Machine

/-! PROOFS. OCL, the pending-filing queue and the bookings: the outcome law and the booking law, which every step keeps
(R1, R29 to R31, R140, R170, R174). -/

namespace Sys2Proof.Machine

/-! ### The outcome law (R30, R170, R174) -/

section outcomeLaw
variable {s : State}

theorem State.OutcomeLaw.ofEmpty (records : s.ocl = Ocl.reset) (queue : s.filing = []) : s.OutcomeLaw where
  bound := by simp [records, Ocl.reset]
  attn := by simp [records, Ocl.reset]
  queue waiting := absurd queue waiting

variable (h : s.OutcomeLaw)
include h

theorem State.OutcomeLaw.same {t : State} (ocl : t.ocl = s.ocl) (filing : t.filing = s.filing) : t.OutcomeLaw where
  bound := by rw [ocl]; exact h.bound
  attn := by rw [ocl]; exact h.attn
  queue := by rw [ocl, filing]; exact h.queue

/-- R30: a record is filed while the queue is empty, and queued while OCL is full. -/
theorem State.OutcomeLaw.fileOrQueue (n : LockerNo) (r : OutcomeRecord) : (s.fileOrQueue n r).OutcomeLaw := by
  by_cases room : s.ocl.records.length < 8
  · rw [State.fileOrQueue_room s n r room]
    refine ⟨by simpa [Ocl.file] using room, by simp [Ocl.file], fun waiting => ?_⟩
    exact absurd (h.queue waiting) (by omega)
  · rw [State.fileOrQueue_full s n r (Nat.le_of_not_lt room)]
    have full : s.ocl.records.length = 8 := Nat.le_antisymm h.bound (Nat.le_of_not_lt room)
    exact ⟨h.bound, h.attn, fun _ => full⟩

theorem State.OutcomeLaw.endInLockout (n : LockerNo) (c : Cause) (e : BookingEnd) :
    (s.endInLockout n c e).OutcomeLaw := by
  rw [State.endInLockout_eq]
  have put : (s.putLocker n ((s.locker n).lockOut c)).OutcomeLaw := h.same rfl rfl
  exact (put.fileOrQueue n _).same rfl rfl

theorem State.OutcomeLaw.endCollected (n : LockerNo) : (s.endCollected n).OutcomeLaw := by
  simp only [State.endCollected]
  refine State.OutcomeLaw.fileOrQueue ?_ n _
  exact h.same rfl rfl

/-- R31, R173: a record that is removed makes room for the head of the queue. -/
theorem State.OutcomeLaw.release {ref : OrderRef} (found : (s.ocl.records.any fun r => r.ref == ref) = true) :
    (s.withOcl (s.ocl.remove ref)).fileFromQueue.OutcomeLaw := by
  have fewer : (s.ocl.remove ref).records.length = s.ocl.records.length - 1 := by
    obtain ⟨r, member, named⟩ := List.any_eq_true.mp found
    exact List.length_eraseP_of_mem member named
  have bound := h.bound
  cases queue : s.filing with
  | nil =>
    rw [State.fileFromQueue_nil _ (by simpa using queue)]
    exact ⟨by rw [State.withOcl_ocl]; omega, rfl, fun waiting => absurd queue waiting⟩
  | cons e rest =>
    have full := h.queue (by simp [queue])
    have one : (s.ocl.remove ref).records.length + 1 = 8 := by omega
    rw [State.fileFromQueue_cons (s.withOcl (s.ocl.remove ref)) (by simpa using queue)]
    refine ⟨?_, by simp [Ocl.file], fun _ => ?_⟩
    · simpa [Ocl.file] using Nat.le_of_eq one
    · simpa [Ocl.file] using one

end outcomeLaw

theorem State.OutcomeLaw.move {s t : State} (move : s.Move t) (h : s.OutcomeLaw) : t.OutcomeLaw := by
  cases move with
  | lockers records filing ocl => exact h.same ocl filing
  | lockedOut n l c e =>
    have set : (s.setLocker n l).OutcomeLaw := h.same rfl rfl
    exact set.endInLockout n c e
  | collected n => exact h.endCollected n
  | released ref found => exact h.release found
  | assigned | freed | line | frameEnd | timedStart | warned | unwarned | holdEnded => exact h.same (by simp) (by simp)

theorem State.OutcomeLaw.step {s t : State} (station : s.StationLaw) (h : s.OutcomeLaw) (e : step s = .next t) :
    t.OutcomeLaw :=
  step_keepsLaw (fun _ asleep => .ofEmpty asleep.dormant.ocl asleep.dormant.filing)
    (fun _ _ asleep => .ofEmpty (by simpa using asleep.dormant.ocl) (by simpa using asleep.dormant.filing))
    (fun _ _ _ => State.OutcomeLaw.move) station h e

/-! ### The booking law of one record (R1, R29) -/

/-- How far the booking of a locker has come: none, in its course, ended, or ended with the locker waiting for its
record to be filed alone. -/
inductive BookingStage where
  | empty | held | ended | filing

def LockerState.stage : LockerState → BookingStage
  | .out | .free => .empty
  | .booked | .loading | .holding | .opened => .held
  | .lockout | .clearing => .ended
  | .filing => .filing

theorem LockerState.stage_empty_iff (st : LockerState) : st.stage = .empty ↔ st = .out ∨ st = .free := by
  cases st <;> simp [LockerState.stage]

theorem LockerState.stage_held_or_filing_iff (st : LockerState) : st.stage = .held ∨ st.stage = .filing ↔
    st = .booked ∨ st = .loading ∨ st = .holding ∨ st = .opened ∨ st = .filing := by
  cases st <;> simp [LockerState.stage]

theorem LockerState.stage_ended_or_filing_iff (st : LockerState) : st.stage = .ended ∨ st.stage = .filing ↔
    st = .lockout ∨ st = .clearing ∨ st = .filing := by
  cases st <;> simp [LockerState.stage]

theorem LockerState.eq_filing_of_stage (st : LockerState) (ended : st.stage = .ended ∨ st.stage = .filing)
    (held : st.stage = .held ∨ st.stage = .filing) : st = .filing := by
  cases st with
  | filing => rfl
  | out | free | booked | loading | holding | opened | lockout | clearing => simp [LockerState.stage] at ended held

/-- R26: a booking that can end is in its course. -/
theorem LockerState.ends.stage {st : LockerState} (h : st.ends) : st.stage = .held := by
  rcases h with rfl | rfl | rfl <;> rfl

theorem Locker.SameButDoor.state {l m : Locker} (h : l.SameButDoor m) : m.state = l.state := by
  rw [h]

/-- What the booking law says of one record by itself. -/
structure Locker.RecordLaw (l : Locker) : Prop where
  code    : l.orderRef.isSome = l.pickupCode.isSome
  profile : l.orderRef.isSome = l.profile.isSome
  held    : l.state.stage = .held ∨ l.state.stage = .filing → l.orderRef.isSome = true
  empty   : l.state.stage = .empty → l.orderRef = none
  pending : l.recordPending = true ↔
    l.orderRef.isSome = true ∧ (l.state.stage = .ended ∨ l.state.stage = .filing)

/-- Two records with the same booking. -/
structure Locker.SameBooking (l m : Locker) : Prop where
  orderRef      : m.orderRef = l.orderRef
  pickupCode    : m.pickupCode = l.pickupCode
  profile       : m.profile = l.profile
  recordPending : m.recordPending = l.recordPending

/-- Whatever moves a record keeps its booking. -/
theorem Locker.Move.sameBooking {overtemp : Nat} {l m : Locker} (move : l.Move overtemp m) : l.SameBooking m := by
  cases move with
  | reported => split <;> exact ⟨rfl, rfl, rfl, rfl⟩
  | supervised =>
    unfold Locker.supervise
    split <;> exact ⟨rfl, rfl, rfl, rfl⟩
  | _ => exact ⟨rfl, rfl, rfl, rfl⟩

section recordLaw
variable {l m : Locker}

/-- A record without a booking. -/
theorem Locker.RecordLaw.ofNone (ref : l.orderRef = none) (code : l.pickupCode = none) (profile : l.profile = none)
    (pending : l.recordPending = false) (notHeld : ¬ (l.state.stage = .held ∨ l.state.stage = .filing)) :
    l.RecordLaw where
  code := by simp [ref, code]
  profile := by simp [ref, profile]
  held state := absurd state notHeld
  empty _ := ref
  pending := iff_of_false (by simp [pending]) (by simp [ref])

variable (h : l.RecordLaw)
include h

theorem Locker.RecordLaw.same (same : l.SameBooking m) (stage : m.state.stage = l.state.stage) : m.RecordLaw where
  code := by rw [same.orderRef, same.pickupCode]; exact h.code
  profile := by rw [same.orderRef, same.profile]; exact h.profile
  held := by rw [same.orderRef, stage]; exact h.held
  empty := by rw [same.orderRef, stage]; exact h.empty
  pending := by rw [same.orderRef, same.recordPending, stage]; exact h.pending

/-- R29: a record is pending only for a booking that has ended. -/
theorem Locker.RecordLaw.notPending (stage : l.state.stage = .empty ∨ l.state.stage = .held) :
    l.recordPending = false := by
  refine Bool.eq_false_of_not_eq_true fun pending => ?_
  rcases stage with stage | stage <;> simpa [stage] using (h.pending.mp pending).2

theorem Locker.RecordLaw.code_none (ref : l.orderRef = none) : l.pickupCode = none := by
  simpa [ref] using h.code

theorem Locker.RecordLaw.profile_none (ref : l.orderRef = none) : l.profile = none := by
  simpa [ref] using h.profile

/-- R1, R29: every move of a record keeps its booking law. -/
theorem Locker.RecordLaw.move {overtemp : Nat} (move : l.Move overtemp m) : m.RecordLaw := by
  have kept := move.sameBooking
  cases move with
  | reported x =>
    refine h.same kept ?_
    split <;> rfl
  | supervised floor =>
    refine h.same kept ?_
    rw [Locker.supervise_state]
  | foreign state =>
    rcases state with free | filing
    · have noRef : l.orderRef = none := h.empty (by rw [free]; rfl)
      have pending : l.recordPending = false := h.notPending (.inl (by rw [free]; rfl))
      exact .ofNone noRef (h.code_none noRef) (h.profile_none noRef) pending nofun
    · refine ⟨h.code, h.profile, nofun, nofun, h.pending.trans ?_⟩
      exact and_congr_right fun _ => iff_of_true (.inr (by rw [filing]; rfl)) (.inl rfl)
  | loading _ state | held state | rebooked state | reheld state | pickedUp state | clearing state | relocked state
  | hidden state | shown state => exact h.same kept (by rw [state]; rfl)
  | emptied clearing pending =>
    have ref := (h.pending.mp pending).1
    exact ⟨h.code, h.profile, fun _ => ref, nofun, iff_of_true pending ⟨ref, .inr rfl⟩⟩
  | cleared clearing filed =>
    have noRef : l.orderRef = none := by
      refine Option.not_isSome_iff_eq_none.mp fun some => ?_
      have pending := h.pending.mpr ⟨some, .inl (by rw [clearing]; rfl)⟩
      exact absurd (filed.symm.trans pending) Bool.false_ne_true
    exact .ofNone noRef (h.code_none noRef) (h.profile_none noRef) filed nofun
  | _ => exact h.same kept rfl

end recordLaw

/-! ### The booking law (R1, R29 to R31, R140) -/

theorem State.pickupCode_ne_of_codeHolder {s : State} {code : Code} (unheld : s.codeHolder code = none) (n : LockerNo) :
    (s.locker n).pickupCode ≠ some code := by
  simpa using List.find?_eq_none.mp unheld n (allLockers_mem n)

theorem State.inOcl_eq_false {s : State} {ref : OrderRef} : s.inOcl ref = false ↔ ∀ r ∈ s.ocl.records, r.ref ≠ ref := by
  simp [State.inOcl]

theorem State.BookingLaw.recordLaw {s : State} (h : s.BookingLaw) (n : LockerNo) : (s.locker n).RecordLaw where
  code := (h.together n).1
  profile := (h.together n).2
  held state := h.held n ((LockerState.stage_held_or_filing_iff _).mp state)
  empty state := h.empty n ((LockerState.stage_empty_iff _).mp state)
  pending := by rw [LockerState.stage_ended_or_filing_iff]; exact h.pending n

/-- The booking law from the law of each record and the laws across the records, the queue and OCL. -/
theorem State.BookingLaw.ofRecords {s : State} (records : ∀ n, (s.locker n).RecordLaw)
    (queued : ∀ n, (s.locker n).recordPending = true ↔ ∃ e ∈ s.filing, e.locker = n)
    (single : (s.filing.map FilingEntry.locker).Nodup)
    (record : ∀ e ∈ s.filing, (s.locker e.locker).orderRef = some e.record.ref)
    (lockerRef : ∀ n m r, (s.locker n).orderRef = some r → (s.locker m).orderRef = some r → n = m)
    (listRef : (s.ocl.records.map OutcomeRecord.ref).Nodup)
    (bothRef : ∀ n r, (s.locker n).orderRef = some r → s.inOcl r = false)
    (lockerCode : ∀ n m c, (s.locker n).pickupCode = some c → (s.locker m).pickupCode = some c → n = m) :
    s.BookingLaw where
  together n := ⟨(records n).code, (records n).profile⟩
  held n state := (records n).held ((LockerState.stage_held_or_filing_iff _).mpr state)
  empty n state := (records n).empty ((LockerState.stage_empty_iff _).mpr state)
  pending n := by rw [← LockerState.stage_ended_or_filing_iff]; exact (records n).pending
  queued := queued
  single := single
  record := record
  lockerRef := lockerRef
  listRef := listRef
  bothRef := bothRef
  lockerCode := lockerCode

/-- No booking, no record and no entry of the queue. -/
theorem State.BookingLaw.ofEmpty {s : State} (lockers : ∀ n, (s.locker n).RecordLaw ∧ (s.locker n).orderRef = none)
    (records : s.ocl = Ocl.reset) (queue : s.filing = []) : s.BookingLaw := by
  have none (n : LockerNo) : (s.locker n).orderRef = Option.none := (lockers n).2
  refine .ofRecords (fun n => (lockers n).1) (fun n => ?_) (by simp [queue]) (by simp [queue]) (by simp [none])
    (by simp [records, Ocl.reset]) (by simp [none]) fun n m c held => ?_
  · simp [(lockers n).1.pending, none, queue]
  · simp [(lockers n).1.code_none (none n)] at held

section bookingLaw
variable {s t : State} (h : s.BookingLaw)
include h

/-- Records that keep their bookings, with the queue and OCL as they are. -/
theorem State.BookingLaw.sameBookings (records : ∀ n, (t.locker n).RecordLaw)
    (same : ∀ n, (s.locker n).SameBooking (t.locker n)) (filing : t.filing = s.filing) (ocl : t.ocl = s.ocl) :
    t.BookingLaw := by
  have ref (n : LockerNo) := (same n).orderRef
  have code (n : LockerNo) := (same n).pickupCode
  have list : t.inOcl = s.inOcl := by
    funext r
    rw [State.inOcl, State.inOcl, ocl]
  refine .ofRecords records (fun n => ?_) ?_ ?_ ?_ ?_ ?_ ?_
  · rw [(same n).recordPending, filing]
    exact h.queued n
  · rw [filing]
    exact h.single
  · simpa only [ref, filing] using h.record
  · simpa only [ref] using h.lockerRef
  · rw [ocl]
    exact h.listRef
  · simpa only [ref, list] using h.bothRef
  · simpa only [code] using h.lockerCode

theorem State.BookingLaw.movedRecords
    (records : ∀ n, t.locker n = s.locker n ∨ (s.locker n).Move s.cfg.overtemp (t.locker n))
    (filing : t.filing = s.filing) (ocl : t.ocl = s.ocl) : t.BookingLaw := by
  refine h.sameBookings (fun n => ?_) (fun n => ?_) filing ocl
  · rcases records n with same | moved
    · exact same ▸ h.recordLaw n
    · exact (h.recordLaw n).move moved
  · rcases records n with same | moved
    · rw [same]
      exact ⟨rfl, rfl, rfl, rfl⟩
    · exact moved.sameBooking

theorem State.BookingLaw.sameLockers (lockers : ∀ n, t.locker n = s.locker n) (filing : t.filing = s.filing)
    (ocl : t.ocl = s.ocl) : t.BookingLaw :=
  h.sameBookings (fun n => by rw [lockers]; exact h.recordLaw n) (fun n => by rw [lockers]; exact ⟨rfl, rfl, rfl, rfl⟩)
    filing ocl

/-- R29: a locker with no record pending has no entry in the queue. -/
theorem State.BookingLaw.locker_ne {n : LockerNo} (notPending : (s.locker n).recordPending = false) {e : FilingEntry}
    (member : e ∈ s.filing) : e.locker ≠ n := fun same => by
  have pending := (h.queued n).mpr ⟨e, member, same⟩
  exact absurd (notPending.symm.trans pending) Bool.false_ne_true

/-- R18, R30, R31: a locker gives up its booking, the queue keeps the entries of the others, and the record that is
filed, if one is, carries the ref given up. -/
theorem State.BookingLaw.giveUp {n : LockerNo} {filed : List OutcomeRecord}
    (others : ∀ m, m ≠ n → t.locker m = s.locker m) (record : (t.locker n).RecordLaw)
    (ref : (t.locker n).orderRef = none) (pending : (t.locker n).recordPending = false)
    (single : (t.filing.map FilingEntry.locker).Nodup) (filing : ∀ e, e ∈ t.filing ↔ e ∈ s.filing ∧ e.locker ≠ n)
    (records : t.ocl.records = s.ocl.records ++ filed)
    (named : filed = [] ∨ ∃ r, filed = [r] ∧ (s.locker n).orderRef = some r.ref) : t.BookingLaw := by
  have code : (t.locker n).pickupCode = none := record.code_none ref
  have other {m : LockerNo} {r : OrderRef} (held : (t.locker m).orderRef = some r) :
      m ≠ n ∧ (s.locker m).orderRef = some r := by
    have apart : m ≠ n := fun same => by simp [same, ref] at held
    exact ⟨apart, others m apart ▸ held⟩
  have listed (r : OutcomeRecord) (member : r ∈ t.ocl.records) :
      r ∈ s.ocl.records ∨ (s.locker n).orderRef = some r.ref := by
    rw [records, List.mem_append] at member
    refine member.imp_right fun last => ?_
    rcases named with rfl | ⟨r', rfl, held⟩
    · exact absurd last List.not_mem_nil
    · rw [List.mem_singleton.mp last, held]
  refine .ofRecords (fun m => ?_) (fun m => ?_) single (fun e member => ?_) (fun m k r first second => ?_) ?_
    (fun m r held => ?_) (fun m k c first second => ?_)
  · by_cases same : m = n
    · exact same ▸ record
    · exact others m same ▸ h.recordLaw m
  · by_cases same : m = n
    · subst same
      refine iff_of_false (by simp [pending]) ?_
      rintro ⟨e, member, named⟩
      exact ((filing e).mp member).2 named
    · rw [others m same, h.queued m]
      refine exists_congr fun e => and_congr_left fun named => ?_
      exact ⟨fun member => (filing e).mpr ⟨member, named ▸ same⟩, fun member => ((filing e).mp member).1⟩
  · obtain ⟨member, apart⟩ := (filing e).mp member
    rw [others _ apart]
    exact h.record e member
  · exact h.lockerRef m k r (other first).2 (other second).2
  · rw [records, List.map_append, List.nodup_append]
    refine ⟨h.listRef, ?_, ?_⟩
    · rcases named with rfl | ⟨r, rfl, _⟩ <;> simp
    · rcases named with rfl | ⟨r, rfl, held⟩
      · simp
      · have unlisted := State.inOcl_eq_false.mp (h.bothRef n r.ref held)
        simpa using unlisted
  · obtain ⟨apart, held⟩ := other held
    refine State.inOcl_eq_false.mpr fun x member => ?_
    rcases listed x member with member | given
    · exact State.inOcl_eq_false.mp (h.bothRef m r held) x member
    · exact fun same => apart (h.lockerRef m n r held (same ▸ given))
  · have held {m : LockerNo} (coded : (t.locker m).pickupCode = some c) : (s.locker m).pickupCode = some c := by
      have apart : m ≠ n := fun same => by simp [same, code] at coded
      exact others m apart ▸ coded
    exact h.lockerCode m k c (held first) (held second)

/-- R29, R30: a booking that ends while OCL is full joins the tail of the queue with its ref. -/
theorem State.BookingLaw.queue {n : LockerNo} {r : OutcomeRecord}
    (notPending : (s.locker n).recordPending = false) (held : (s.locker n).orderRef = some r.ref)
    (others : ∀ m, m ≠ n → t.locker m = s.locker m) (ref : (t.locker n).orderRef = (s.locker n).orderRef)
    (code : (t.locker n).pickupCode = (s.locker n).pickupCode) (profile : (t.locker n).profile = (s.locker n).profile)
    (pending : (t.locker n).recordPending = true)
    (stage : (t.locker n).state.stage = .ended ∨ (t.locker n).state.stage = .filing)
    (filing : t.filing = s.filing ++ [⟨n, r⟩]) (ocl : t.ocl = s.ocl) : t.BookingLaw := by
  have sameRef (m : LockerNo) : (t.locker m).orderRef = (s.locker m).orderRef := by
    by_cases same : m = n
    · exact same ▸ ref
    · rw [others m same]
  have sameCode (m : LockerNo) : (t.locker m).pickupCode = (s.locker m).pickupCode := by
    by_cases same : m = n
    · exact same ▸ code
    · rw [others m same]
  have list : t.inOcl = s.inOcl := by
    funext x
    rw [State.inOcl, State.inOcl, ocl]
  have own := h.recordLaw n
  have some : (t.locker n).orderRef.isSome = true := by rw [ref, held]; rfl
  refine .ofRecords (fun m => ?_) (fun m => ?_) ?_ (fun e member => ?_) ?_ ?_ ?_ ?_
  · by_cases same : m = n
    · subst same
      refine ⟨by rw [ref, code]; exact own.code, by rw [ref, profile]; exact own.profile, fun _ => some,
        fun empty => ?_, iff_of_true pending ⟨some, stage⟩⟩
      simp [empty] at stage
    · exact others m same ▸ h.recordLaw m
  · rw [filing]
    by_cases same : m = n
    · exact iff_of_true (same ▸ pending) ⟨⟨n, r⟩, by simp, same.symm⟩
    · rw [others m same, h.queued m]
      simp [Ne.symm same]
  · rw [filing, List.map_append, List.nodup_append]
    refine ⟨h.single, by simp, ?_⟩
    rintro k member m last rfl
    obtain ⟨e, member, named⟩ := List.mem_map.mp member
    exact h.locker_ne notPending member (named.trans (by simpa using last))
  · rw [filing, List.mem_append] at member
    rw [sameRef]
    rcases member with member | last
    · exact h.record e member
    · rw [List.mem_singleton.mp last]
      exact held
  · simpa only [sameRef] using h.lockerRef
  · rw [ocl]
    exact h.listRef
  · simpa only [sameRef, list] using h.bothRef
  · simpa only [sameCode] using h.lockerCode

/-- R173: a record that is removed takes its ref out of OCL. -/
theorem State.BookingLaw.remove (ref : OrderRef) : (s.withOcl (s.ocl.remove ref)).BookingLaw := by
  have sublist : (s.ocl.remove ref).records.Sublist s.ocl.records := List.eraseP_sublist
  refine .ofRecords h.recordLaw h.queued h.single h.record h.lockerRef ?_ (fun n r held => ?_) h.lockerCode
  · exact h.listRef.sublist (sublist.map _)
  · exact State.inOcl_eq_false.mpr fun x member =>
      State.inOcl_eq_false.mp (h.bothRef n r held) x (sublist.subset member)

end bookingLaw

/-! ### The booking law under every change -/

section bookingMoves
variable {s : State} (h : s.BookingLaw)
include h

/-- R30: the ref that an end event files is the ref of the booking. -/
theorem State.BookingLaw.orderRef_eq {n : LockerNo} (stage : (s.locker n).state.stage = .held) (e : BookingEnd) :
    (s.locker n).orderRef = some (outcomeRecord n (s.locker n) e).ref := by
  obtain ⟨ref, held⟩ := Option.isSome_iff_exists.mp ((h.recordLaw n).held (.inl stage))
  simp [outcomeRecord, held]

/-- R24, R25, R30: the end of a booking in a lockout. -/
theorem State.BookingLaw.endInLockout (n : LockerNo) (c : Cause) (e : BookingEnd)
    (stage : (s.locker n).state.stage = .held) : (s.endInLockout n c e).BookingLaw := by
  have notPending := (h.recordLaw n).notPending (.inr stage)
  by_cases room : s.ocl.records.length < 8
  · rw [State.endInLockout_of_room s n c e room]
    refine h.giveUp (n := n) (filed := [outcomeRecord n (s.locker n) e]) (fun m other => ?_) ?_ ?_ ?_ h.single
      (fun x => ⟨fun member => ⟨member, h.locker_ne notPending member⟩, And.left⟩) rfl
      (.inr ⟨_, rfl, h.orderRef_eq stage e⟩)
    · rw [State.withPnl_locker, State.withOcl_locker, State.putLocker_locker_other _ _ other]
    all_goals rw [State.withPnl_locker, State.withOcl_locker, State.putLocker_locker_same]
    · exact .ofNone rfl rfl rfl notPending nofun
    · rfl
    · exact notPending
  · rw [State.endInLockout_of_full s n c e (Nat.le_of_not_lt room)]
    refine h.queue (r := outcomeRecord n (s.locker n) e) notPending (h.orderRef_eq stage e) (fun m other => ?_) ?_ ?_
      ?_ ?_ ?_ rfl rfl
    · rw [State.withPnl_locker, State.withFiling_locker, State.putLocker_locker_other _ _ other]
    all_goals rw [State.withPnl_locker, State.withFiling_locker, State.putLocker_locker_same]
    · rfl
    · rfl
    · rfl
    · rfl
    · exact .inl rfl

/-- R21, R30: the end of a booking in a collection. -/
theorem State.BookingLaw.endCollected (n : LockerNo) (stage : (s.locker n).state.stage = .held) :
    (s.endCollected n).BookingLaw := by
  have notPending := (h.recordLaw n).notPending (.inr stage)
  by_cases room : s.ocl.records.length < 8
  · rw [State.endCollected_of_room s n room]
    refine h.giveUp (n := n) (filed := [outcomeRecord n (s.locker n) .collected]) (fun m other => ?_) ?_ ?_ ?_ h.single
      (fun x => ⟨fun member => ⟨member, h.locker_ne notPending member⟩, And.left⟩) rfl
      (.inr ⟨_, rfl, h.orderRef_eq stage .collected⟩)
    · rw [State.withOcl_locker, State.putLocker_locker_other _ _ other]
    all_goals rw [State.withOcl_locker, State.putLocker_locker_same]
    · exact .ofNone rfl rfl rfl notPending nofun
    · rfl
    · exact notPending
  · rw [State.endCollected_of_full s n (Nat.le_of_not_lt room)]
    refine h.queue (r := outcomeRecord n (s.locker n) .collected) notPending (h.orderRef_eq stage .collected)
      (fun m other => ?_) ?_ ?_ ?_ ?_ ?_ rfl rfl
    · rw [State.withFiling_locker, State.putLocker_locker_other _ _ other]
    all_goals rw [State.withFiling_locker, State.putLocker_locker_same]
    · rfl
    · rfl
    · rfl
    · rfl
    · exact .inr rfl

/-- R31: the head of the queue is filed, and its locker gives up its booking. -/
theorem State.BookingLaw.fileFromQueue : s.fileFromQueue.BookingLaw := by
  cases queue : s.filing with
  | nil =>
    rw [State.fileFromQueue_nil s queue]
    exact h
  | cons e rest =>
    rw [State.fileFromQueue_cons s queue]
    have nodup := h.single
    rw [queue, List.map_cons, List.nodup_cons] at nodup
    obtain ⟨apart, single⟩ := nodup
    have later (x : FilingEntry) : x ∈ rest ↔ x ∈ s.filing ∧ x.locker ≠ e.locker := by
      rw [queue, List.mem_cons]
      constructor
      · exact fun member => ⟨.inr member, fun same => apart (same ▸ List.mem_map_of_mem member)⟩
      · rintro ⟨rfl | member, other⟩
        · exact absurd rfl other
        · exact member
    have head : e ∈ s.filing := by simp [queue]
    refine h.giveUp (n := e.locker) (filed := [e.record]) (fun m other => ?_) ?_ ?_ ?_ single later rfl
      (.inr ⟨_, rfl, h.record e head⟩)
    · rw [State.withOcl_locker, State.withFiling_locker, State.putLocker_locker_other _ _ other]
    all_goals rw [State.withOcl_locker, State.withFiling_locker, State.putLocker_locker_same]
    · have pending : (s.locker e.locker).recordPending = true := (h.queued _).mpr ⟨e, head, rfl⟩
      have ended := ((h.recordLaw _).pending.mp pending).2
      split
      next => exact .ofNone rfl rfl rfl rfl nofun
      next other =>
        refine .ofNone rfl rfl rfl rfl fun stage => other ?_
        exact LockerState.eq_filing_of_stage (s.locker e.locker).state ended stage
    · split <;> rfl
    · split <;> rfl

/-- R140: a FREE locker takes a ref and a code that are nowhere yet. -/
theorem State.BookingLaw.assign {n : LockerNo} {ref : OrderRef} {code : Code} {profile : Byte}
    (free : (s.locker n).state = .free) (known : (profileOfByte profile).isSome = true)
    (newRef : s.dupOrder ref = false) (newCode : s.dupCode code = false) :
    (s.assign n ref code profile).BookingLaw := by
  have notPending := (h.recordLaw n).notPending (.inl (by rw [free]; rfl))
  obtain ⟨unheld, unlisted⟩ := Bool.or_eq_false_iff.mp newRef
  obtain ⟨unheldCode, -⟩ := Bool.or_eq_false_iff.mp newCode
  have freshRef (m : LockerNo) : (s.locker m).orderRef ≠ some ref :=
    State.orderRef_ne_of_holderOf (Option.not_isSome_iff_eq_none.mp (by simp [unheld])) m
  have freshCode (m : LockerNo) : (s.locker m).pickupCode ≠ some code :=
    State.pickupCode_ne_of_codeHolder (Option.not_isSome_iff_eq_none.mp (by simp [unheldCode])) m
  have own : (s.assign n ref code profile).locker n = { s.locker n with
      state := .booked, orderRef := some ref, pickupCode := some code, profile := profileOfByte profile
      loadedCold := false }.refresh := State.putLocker_locker_same ..
  have other {m : LockerNo} (apart : m ≠ n) : (s.assign n ref code profile).locker m = s.locker m :=
    State.putLocker_locker_other _ _ apart
  have refs (m : LockerNo) {r : OrderRef} (held : ((s.assign n ref code profile).locker m).orderRef = some r) :
      m = n ∧ r = ref ∨ m ≠ n ∧ (s.locker m).orderRef = some r := by
    by_cases same : m = n
    · subst same
      rw [own] at held
      exact .inl ⟨rfl, (Option.some.inj held).symm⟩
    · exact .inr ⟨same, other same ▸ held⟩
  have codes (m : LockerNo) {c : Code} (held : ((s.assign n ref code profile).locker m).pickupCode = some c) :
      m = n ∧ c = code ∨ m ≠ n ∧ (s.locker m).pickupCode = some c := by
    by_cases same : m = n
    · subst same
      rw [own] at held
      exact .inl ⟨rfl, (Option.some.inj held).symm⟩
    · exact .inr ⟨same, other same ▸ held⟩
  refine .ofRecords (fun m => ?_) (fun m => ?_) h.single (fun e member => ?_) (fun m k r first second => ?_) h.listRef
    (fun m r held => ?_) (fun m k c first second => ?_)
  · by_cases same : m = n
    · subst same
      rw [own]
      exact ⟨rfl, known.symm, fun _ => rfl, nofun, iff_of_false (by simp [Locker.refresh, notPending])
        fun pending => by simpa [LockerState.stage] using pending.2⟩
    · exact other same ▸ h.recordLaw m
  · refine Iff.trans ?_ (h.queued m)
    by_cases same : m = n
    · subst same
      rw [own]
      exact Iff.rfl
    · rw [other same]
  · rw [other (h.locker_ne notPending member)]
    exact h.record e member
  · rcases refs m first with ⟨rfl, rfl⟩ | ⟨_, before⟩ <;> rcases refs k second with ⟨rfl, same⟩ | ⟨_, after⟩
    · rfl
    · exact absurd after (freshRef k)
    · exact absurd (same ▸ before) (freshRef m)
    · exact h.lockerRef m k r before after
  · rcases refs m held with ⟨rfl, rfl⟩ | ⟨_, held⟩
    · exact unlisted
    · exact h.bothRef m r held
  · rcases codes m first with ⟨rfl, rfl⟩ | ⟨_, before⟩ <;> rcases codes k second with ⟨rfl, same⟩ | ⟨_, after⟩
    · rfl
    · exact absurd after (freshCode k)
    · exact absurd (same ▸ before) (freshCode m)
    · exact h.lockerCode m k c before after

/-- R18, R150: a BOOKED locker gives up its booking without a record. -/
theorem State.BookingLaw.freeBooked {n : LockerNo} (booked : (s.locker n).state = .booked) :
    (s.freeBooked n).BookingLaw := by
  have notPending := (h.recordLaw n).notPending (.inr (by rw [booked]; rfl))
  have own : (s.freeBooked n).locker n = { (s.locker n).clearBooking.switchOff with state := .free }.refresh :=
    State.putLocker_locker_same ..
  refine h.giveUp (n := n) (filed := []) (fun m other => State.putLocker_locker_other _ _ other) ?_ ?_ ?_ h.single
    (fun x => ⟨fun member => ⟨member, h.locker_ne notPending member⟩, And.left⟩) (List.append_nil _).symm (.inl rfl)
  all_goals rw [own]
  · exact .ofNone rfl rfl rfl notPending nofun
  · rfl
  · exact notPending

/-- R13: a door event that comes with the end of a booking leaves the bookings alone. -/
theorem State.BookingLaw.setDoor {n : LockerNo} {l : Locker} (same : (s.locker n).SameButDoor l) :
    (s.setLocker n l).BookingLaw := by
  have booking : (s.locker n).SameBooking l := by
    rw [same]
    exact ⟨rfl, rfl, rfl, rfl⟩
  refine h.sameBookings (fun m => ?_) (fun m => ?_) rfl rfl
  all_goals
    rw [State.setLocker_locker]
    split
  next named =>
    subst named
    exact (h.recordLaw m).same booking (by rw [same.state])
  next => exact h.recordLaw m
  next named => exact named ▸ booking
  next => exact ⟨rfl, rfl, rfl, rfl⟩

theorem State.BookingLaw.move {t : State} (move : s.Move t) : t.BookingLaw := by
  cases move with
  | lockers records filing ocl => exact h.movedRecords records filing ocl
  | lockedOut n l c e same ends => exact (h.setDoor same).endInLockout n c e (by
      rw [State.setLocker_locker_same, same.state]; exact ends.stage)
  | collected n opened => exact h.endCollected n (by rw [opened]; rfl)
  | released ref => exact (h.remove ref).fileFromQueue
  | assigned n ref code profile free known newRef newCode => exact h.assign free known newRef newCode
  | freed n booked => exact h.freeBooked booked
  | line | holdEnded => exact h.sameLockers (fun _ => rfl) rfl rfl
  | unwarned => exact h.sameLockers (State.warnReleased_locker _) (by simp) (by simp)
  | frameEnd => exact h.sameLockers s.frameEnd_locker (by simp) (by simp)
  | timedStart => exact h.movedRecords (fun n => .inr (s.timedStart_windowPlanned.record n)) (by simp) (by simp)
  | warned => exact h.movedRecords (State.warnAsserted_record _) (by simp) (by simp)

end bookingMoves

/-- The booking law of a part that stands at its reset values, whose lockers may have been set up (R2, R3). -/
theorem State.BookingLaw.ofDormant {s t : State} (asleep : s.Asleep)
    (lockers : ∀ n, t.locker n = s.locker n ∨ ∃ hidden, t.locker n = (s.locker n).setUp hidden)
    (records : t.ocl = s.ocl) (queue : t.filing = s.filing) : t.BookingLaw := by
  refine .ofEmpty (fun n => ?_) (records.trans asleep.dormant.ocl) (queue.trans asleep.dormant.filing)
  rcases lockers n with same | ⟨hidden, same⟩
  all_goals rw [same, asleep.locker n]
  · exact ⟨.ofNone rfl rfl rfl rfl nofun, rfl⟩
  · unfold Locker.setUp
    split
    · exact ⟨.ofNone rfl rfl rfl rfl nofun, rfl⟩
    split <;> exact ⟨.ofNone rfl rfl rfl rfl nofun, rfl⟩

theorem State.BookingLaw.step {s t : State} (station : s.StationLaw) (h : s.BookingLaw) (e : step s = .next t) :
    t.BookingLaw := by
  refine step_keepsLaw (fun s asleep => .ofDormant asleep (fun _ => .inl rfl) rfl rfl) (fun s image asleep => ?_)
    (fun _ _ _ move law => law.move move) station h e
  exact .ofDormant asleep (fun n => .inr ⟨_, State.endStarting_locker ..⟩) (by simp) (by simp)

/-- Settles O57: OCL and the queue change together; a booking begins with a ref and a code that are nowhere, and ends by
giving its ref to a record; the cause law is a law of each record. -/
theorem everyStepKeepsOutcomeAndBookingLaws : Obligations.EveryStepKeepsOutcomeAndBookingLaws := by
  unfold Obligations.EveryStepKeepsOutcomeAndBookingLaws
  exact ⟨fun _ _ station law e => ⟨law.step station e, fun booking => booking.step station e⟩,
    fun _ _ station law e => law.step station e⟩

end Sys2Proof.Machine

/-! PROOFS. HBP: the bus law, which every step keeps. It falls into a law of the receive path, a law of the transmit
slot and the sender, and a law of an attempt on the line (R90 to R98). -/

namespace Sys2Proof.Machine

/-! ### The three parts of the bus law -/

/-- R91, R98: what the receive path has to do with the line and the cells. -/
structure Hbp.ReceiveLaw (h : Hbp) : Prop where
  line    : h.path ≠ .off → (h.lineIdle = true ↔ h.path = .ready)
  between : h.path = .off ∨ h.path = .syncing ∨ h.path = .ready → h.cellsReceived = 0
  inFrame : h.path = .inFrame → 1 ≤ h.cellsReceived
  counted : h.cellsReceived ≤ 79
  kept    : h.cells.length = min 78 h.cellsReceived

/-- R92 to R97: what the slot, the period and the attempt have to do with the sender. -/
structure Hbp.SendLaw (h : Hbp) : Prop where
  slot     : h.sender = .idle ↔ h.slot = none
  period   : h.periodResult = .pending ↔ h.slot ≠ none
  attempt  : h.onLine = true ↔ h.attemptFrame ≠ .none
  driven   : h.onLine = true ↔ h.driven ≠ none
  current  : h.attemptFrame = .current → h.driven = h.slot
  attempts : h.attemptCount ≤ 15

/-- R93, R94: what the receive path has to do with an attempt on the line. -/
structure Hbp.AttemptLaw (h : Hbp) : Prop where
  onFrame     : h.onLine = true → h.path = .inFrame
  arbitrating : h.sender = .arbitrating → h.cellsReceived ≤ 6
  sending     : h.sender = .sending → 7 ≤ h.cellsReceived

/-- What the bus law says of HBP by itself, in a part that runs. -/
structure Hbp.Law (h : Hbp) : Prop where
  on      : h.path ≠ .off
  receive : h.ReceiveLaw
  send    : h.SendLaw
  attempt : h.AttemptLaw

section busLaw
variable {s : State}

theorem State.BusLaw.hbpLaw (h : s.BusLaw) (running : s.running = true) : s.hbp.Law where
  on off := by simpa [running] using h.off.mp off
  receive := ⟨h.line, h.between, h.inFrame, h.counted, h.kept⟩
  send := ⟨h.slot, h.period, h.attempt, h.driven, h.current, h.attempts⟩
  attempt := ⟨h.onFrame, h.arbitrating, h.sending⟩

theorem Hbp.Law.busLaw (h : s.hbp.Law) (running : s.running = true) : s.BusLaw where
  off := iff_of_false h.on (by simp [running])
  line := h.receive.line
  between := h.receive.between
  inFrame := h.receive.inFrame
  counted := h.receive.counted
  kept := h.receive.kept
  slot := h.send.slot
  period := h.send.period
  attempt := h.send.attempt
  driven := h.send.driven
  current := h.send.current
  onFrame := h.attempt.onFrame
  arbitrating := h.attempt.arbitrating
  sending := h.attempt.sending
  attempts := h.send.attempts

/-- R90: at its reset values HBP has no frame to send and takes none. -/
theorem State.BusLaw.ofAsleep (asleep : s.Asleep) : s.BusLaw := by
  obtain ⟨idle, hbp⟩ : ∃ idle, s.hbp = { Hbp.reset with lineIdle := idle } := ⟨_, asleep.dormant.hbp⟩
  constructor <;> simp [hbp, Hbp.reset, Hbp.onLine, asleep.stopped]

end busLaw

/-! ### The receive path -/

section receive
variable {h g : Hbp}

theorem Hbp.ReceiveLaw.same (law : h.ReceiveLaw) (path : g.path = h.path) (line : g.lineIdle = h.lineIdle)
    (count : g.cellsReceived = h.cellsReceived) (cells : g.cells.length = h.cells.length) : g.ReceiveLaw where
  line := by rw [path, line]; exact law.line
  between := by rw [path, count]; exact law.between
  inFrame := by rw [path, count]; exact law.inFrame
  counted := by rw [count]; exact law.counted
  kept := by rw [count, cells]; exact law.kept

/-- R98: between frames, with no cell kept. -/
theorem Hbp.ReceiveLaw.ofEmpty (line : h.path ≠ .off → (h.lineIdle = true ↔ h.path = .ready))
    (noFrame : h.path ≠ .inFrame) (count : h.cellsReceived = 0) (cells : h.cells = []) : h.ReceiveLaw where
  line := line
  between _ := count
  inFrame path := absurd path noFrame
  counted := by omega
  kept := by rw [count, cells]; rfl

/-- R98: the edge of a cell counts it and keeps its value. -/
theorem Hbp.ReceiveLaw.countCell (kept : h.cells.length = min 78 h.cellsReceived) (busy : h.lineIdle = false)
    (read : Bool) : (h.countCell read).ReceiveLaw := by
  by_cases inside : h.cellsReceived + 1 ≤ 78
  · rw [Hbp.countCell_of_kept (by omega) inside]
    refine ⟨fun _ => ?_, nofun, fun _ => Nat.le_add_left .., ?_, ?_⟩
    · exact iff_of_false (by simp [busy]) nofun
    · show h.cellsReceived + 1 ≤ 79
      omega
    · show (h.cells ++ [read]).length = min 78 (h.cellsReceived + 1)
      rw [List.length_append, List.length_singleton]
      omega
  · rw [Hbp.countCell_of_beyond (by omega)]
    refine ⟨fun _ => iff_of_false (by simp [busy]) nofun, nofun, fun _ => Nat.le_add_left .., Nat.le_refl _, ?_⟩
    show h.cells.length = 78
    omega

end receive

/-! ### The sender -/

section send
variable {h g : Hbp}

theorem Hbp.SendLaw.same (law : h.SendLaw) (sender : g.sender = h.sender) (slot : g.slot = h.slot)
    (period : g.periodResult = h.periodResult) (frame : g.attemptFrame = h.attemptFrame) (driven : g.driven = h.driven)
    (count : g.attemptCount = h.attemptCount) : g.SendLaw := by
  have onLine : g.onLine = h.onLine := by rw [Hbp.onLine, Hbp.onLine, sender]
  refine ⟨?_, ?_, ?_, ?_, ?_, ?_⟩
  · rw [sender, slot]; exact law.slot
  · rw [period, slot]; exact law.period
  · rw [onLine, frame]; exact law.attempt
  · rw [onLine, driven]; exact law.driven
  · rw [frame, driven, slot]; exact law.current
  · rw [count]; exact law.attempts

theorem Hbp.not_onLine_of_waiting (waiting : h.sender = .waiting) : ¬ h.onLine = true := by
  simp [Hbp.onLine, waiting]

/-- R92, R94: a frame waits in the slot. -/
theorem Hbp.SendLaw.ofWaiting (waiting : h.sender = .waiting) (slot : h.slot ≠ none)
    (period : h.periodResult = .pending) (frame : h.attemptFrame = .none) (driven : h.driven = none)
    (count : h.attemptCount ≤ 15) : h.SendLaw where
  slot := iff_of_false (by simp [waiting]) slot
  period := iff_of_true period slot
  attempt := iff_of_false (Hbp.not_onLine_of_waiting waiting) (by simp [frame])
  driven := iff_of_false (Hbp.not_onLine_of_waiting waiting) (by simp [driven])
  current now := absurd (frame.symm.trans now) nofun
  attempts := count

/-- R95, R96: the slot is empty. -/
theorem Hbp.SendLaw.ofIdle (idle : h.sender = .idle) (slot : h.slot = none) (period : h.periodResult ≠ .pending)
    (frame : h.attemptFrame = .none) (driven : h.driven = none) (count : h.attemptCount ≤ 15) : h.SendLaw where
  slot := iff_of_true idle slot
  period := iff_of_false period (by simp [slot])
  attempt := iff_of_false (by simp [Hbp.onLine, idle]) (by simp [frame])
  driven := iff_of_false (by simp [Hbp.onLine, idle]) (by simp [driven])
  current now := absurd (frame.symm.trans now) nofun
  attempts := count

variable (law : h.SendLaw)
include law

theorem Hbp.SendLaw.slot_of_onLine (onLine : h.onLine = true) : h.slot ≠ none := fun empty => by
  have idle := law.slot.mpr empty
  simp [Hbp.onLine, idle] at onLine

theorem Hbp.SendLaw.slot_of_waiting (waiting : h.sender = .waiting) : h.slot ≠ none := fun empty => by
  simpa [waiting] using law.slot.mpr empty

theorem Hbp.SendLaw.frame_of_offLine (offLine : ¬ h.onLine = true) : h.attemptFrame = .none ∧ h.driven = none :=
  ⟨by_contra fun some => offLine (law.attempt.mpr some), by_contra fun some => offLine (law.driven.mpr some)⟩

/-- R94: the frame of a lost attempt waits. -/
theorem Hbp.SendLaw.loseArbitration (onLine : h.onLine = true) : h.loseArbitration.SendLaw := by
  have slot := law.slot_of_onLine onLine
  exact .ofWaiting rfl slot (law.period.mpr slot) rfl rfl law.attempts

/-- R95, R97: the frame of an errored attempt waits, or is dropped with its sixteenth. -/
theorem Hbp.SendLaw.errorAttempt (onLine : h.onLine = true) : h.errorAttempt.SendLaw := by
  have slot := law.slot_of_onLine onLine
  have period := law.period.mpr slot
  by_cases current : h.attemptFrame = .current
  · by_cases few : h.attemptCount < 15
    · rw [Hbp.errorAttempt_of_few current few]
      exact .ofWaiting rfl slot period rfl rfl (Nat.succ_le_of_lt few)
    · rw [Hbp.errorAttempt_of_sixteenth current (Nat.le_of_not_lt few)]
      exact .ofIdle rfl rfl nofun rfl rfl (Nat.zero_le _)
  · rw [Hbp.errorAttempt_of_superseded current]
    exact .ofWaiting rfl slot period rfl rfl law.attempts

/-- R96, R97: the frame of a completed attempt has been sent, or a newer one waits. -/
theorem Hbp.SendLaw.completeAttempt (onLine : h.onLine = true) : h.completeAttempt.SendLaw := by
  have slot := law.slot_of_onLine onLine
  by_cases current : h.attemptFrame = .current
  · rw [Hbp.completeAttempt_current current]
    exact .ofIdle rfl rfl nofun rfl rfl (Nat.zero_le _)
  · rw [Hbp.completeAttempt_superseded current]
    exact .ofWaiting rfl slot (law.period.mpr slot) rfl rfl law.attempts

/-- R93: the attempt of a waiting frame drives it. -/
theorem Hbp.SendLaw.beginAttempt (waiting : h.sender = .waiting) : h.beginAttempt.SendLaw := by
  have slot := law.slot_of_waiting waiting
  exact ⟨iff_of_false nofun slot, iff_of_true (law.period.mpr slot) slot, iff_of_true rfl nofun, iff_of_true rfl slot,
    fun _ => rfl, law.attempts⟩

/-- R92, R97: a new frame takes the slot. -/
theorem Hbp.SendLaw.takeDemand (f : DemandFrame) : (h.takeDemand f).SendLaw := by
  have full : some f ≠ none := nofun
  rw [Hbp.takeDemand_eq]
  by_cases onLine : h.onLine = true
  · simp only [onLine, if_true]
    have busy : h.sender ≠ .idle := fun idle => by simp [Hbp.onLine, idle] at onLine
    exact ⟨iff_of_false busy full, iff_of_true rfl full, iff_of_true onLine nofun,
      iff_of_true onLine (law.driven.mp onLine), nofun, Nat.zero_le _⟩
  · obtain ⟨frame, driven⟩ := law.frame_of_offLine onLine
    simp only [onLine]
    exact .ofWaiting rfl full rfl frame driven (Nat.zero_le _)

end send

/-! ### An attempt on the line -/

section attempt
variable {h : Hbp}

theorem Hbp.AttemptLaw.ofOffLine (offLine : ¬ h.onLine = true) : h.AttemptLaw where
  onFrame onLine := absurd onLine offLine
  arbitrating state := absurd (Hbp.onLine_iff.mpr (.inl state)) offLine
  sending state := absurd (Hbp.onLine_iff.mpr (.inr state)) offLine

theorem Hbp.keepCell_onLine (h : Hbp) (read : Bool) : (h.keepCell read).onLine = h.onLine := by
  unfold Hbp.keepCell
  split <;> rfl

theorem Hbp.errorAttempt_withPath (h : Hbp) (path : ReceivePath) :
    { h with path := path }.errorAttempt = { h.errorAttempt with path := path } := by
  by_cases current : h.attemptFrame = .current
  · by_cases few : h.attemptCount < 15
    · rw [Hbp.errorAttempt_of_few current few]
      exact Hbp.errorAttempt_of_few (h := { h with path := path }) current few
    · rw [Hbp.errorAttempt_of_sixteenth current (Nat.le_of_not_lt few)]
      exact Hbp.errorAttempt_of_sixteenth (h := { h with path := path }) current (Nat.le_of_not_lt few)
  · rw [Hbp.errorAttempt_of_superseded current]
    exact Hbp.errorAttempt_of_superseded (h := { h with path := path }) current

theorem Hbp.errorAttempt_receive (h : Hbp) : h.errorAttempt.cellsReceived = h.cellsReceived
    ∧ h.errorAttempt.cells = h.cells := by
  by_cases current : h.attemptFrame = .current
  · by_cases few : h.attemptCount < 15
    · rw [Hbp.errorAttempt_of_few current few]
      exact ⟨rfl, rfl⟩
    · rw [Hbp.errorAttempt_of_sixteenth current (Nat.le_of_not_lt few)]
      exact ⟨rfl, rfl⟩
  · rw [Hbp.errorAttempt_of_superseded current]
    exact ⟨rfl, rfl⟩

/-- R98: the edge of a cell writes the receive path, and makes an arbitrating sender a sending one from cell 7 on. -/
theorem Hbp.countCell_eq (h : Hbp) (read : Bool) : h.countCell read = { h with
    path := .inFrame
    cellsReceived := min 79 (h.cellsReceived + 1)
    cells := (h.countCell read).cells
    sender := if h.sender = .arbitrating ∧ 7 ≤ min 79 (h.cellsReceived + 1) then .sending else h.sender } := by
  simp only [Hbp.countCell]
  split
  · rfl
  · simp only [Hbp.keepCell]
    split <;> rfl

/-- R94, R98: the edge of a cell, wherever the sender stands. -/
theorem Hbp.Law.countCell (kept : h.cells.length = min 78 h.cellsReceived) (busy : h.lineIdle = false)
    (send : h.SendLaw) (sending : h.sender = .sending → 7 ≤ h.cellsReceived) (read : Bool) :
    (h.countCell read).Law := by
  have receive := Hbp.ReceiveLaw.countCell kept busy read
  rw [Hbp.countCell_eq] at receive ⊢
  refine ⟨nofun, receive, ?_, fun _ => rfl, ?_, ?_⟩
  · split
    next goesOn =>
      have onLine : h.onLine = true := Hbp.onLine_iff.mpr (.inl goesOn.1)
      exact ⟨iff_of_false nofun (send.slot_of_onLine onLine), send.period, iff_of_true rfl (send.attempt.mp onLine),
        iff_of_true rfl (send.driven.mp onLine), send.current, send.attempts⟩
    next => exact send.same rfl rfl rfl rfl rfl rfl
  · show (if h.sender = .arbitrating ∧ 7 ≤ min 79 (h.cellsReceived + 1) then Sender.sending else h.sender) = _ →
      min 79 (h.cellsReceived + 1) ≤ 6
    split
    next => nofun
    next early =>
      intro arbitrating
      have := not_and.mp early arbitrating
      omega
  · show (if h.sender = .arbitrating ∧ 7 ≤ min 79 (h.cellsReceived + 1) then Sender.sending else h.sender) = _ →
      7 ≤ min 79 (h.cellsReceived + 1)
    split
    next goesOn => exact fun _ => goesOn.2
    next =>
      intro state
      have := sending state
      omega

/-- R98: the line is idle again and the receive path is ready, with no attempt on the line. -/
theorem Hbp.Law.toReady (send : h.SendLaw) (offLine : ¬ h.onLine = true) (idle : h.lineIdle = true)
    (received discarded : Nat) :
    { h.toReady with framesReceived := received, framesDiscarded := discarded }.Law where
  on := nofun
  receive := .ofEmpty (fun _ => iff_of_true idle rfl) nofun rfl rfl
  send := send.same rfl rfl rfl rfl rfl rfl
  attempt := .ofOffLine offLine

variable (law : h.Law)
include law

/-- R94: an attempt that leaves the line. -/
theorem Hbp.Law.loseArbitration (onLine : h.onLine = true) : h.loseArbitration.Law :=
  ⟨law.on, law.receive.same rfl rfl rfl rfl, law.send.loseArbitration onLine, .ofOffLine nofun⟩

theorem Hbp.Law.errorAttempt (onLine : h.onLine = true) : h.errorAttempt.Law := by
  obtain ⟨offLine, path, line⟩ := h.errorAttempt_keeps
  obtain ⟨count, cells⟩ := h.errorAttempt_receive
  exact ⟨by rw [path]; exact law.on, law.receive.same path line count (by rw [cells]),
    law.send.errorAttempt onLine, .ofOffLine (by simp [offLine])⟩

/-- R98: the cell now on the line keeps another value. -/
theorem Hbp.Law.keepCell (inFrame : h.path = .inFrame) (read : Bool) : (h.keepCell read).Law := by
  by_cases inside : h.cellsReceived ≤ 78
  · have first := law.receive.inFrame inFrame
    have kept := law.receive.kept
    rw [Hbp.keepCell_of_inside inside]
    refine ⟨law.on, law.receive.same rfl rfl rfl ?_, law.send.same rfl rfl rfl rfl rfl rfl,
      ⟨law.attempt.onFrame, law.attempt.arbitrating, law.attempt.sending⟩⟩
    show (h.cells.take (h.cellsReceived - 1) ++ [read]).length = h.cells.length
    rw [List.length_append, List.length_take, List.length_singleton]
    omega
  · rw [Hbp.keepCell, if_neg inside]
    exact law

/-- R98: a framing error ends the frame for the receive path, no attempt being on the line. -/
theorem Hbp.Law.skip (inFrame : h.path = .inFrame) (offLine : ¬ h.onLine = true) :
    { h with path := .skipping }.Law := by
  have busy := law.receive.line (by simp [inFrame])
  refine ⟨nofun, ⟨fun _ => ?_, nofun, nofun, law.receive.counted, law.receive.kept⟩,
    law.send.same rfl rfl rfl rfl rfl rfl, .ofOffLine offLine⟩
  exact iff_of_false (fun idle => by simpa [inFrame] using busy.mp idle) nofun

/-- R94, R95: the comparison of a cell. -/
theorem Hbp.Law.compare (read : Bool) : (h.compare read).Law := by
  unfold Hbp.compare
  split
  next => exact law
  next differs =>
    have onLine : h.onLine = true := by
      simp only [Bool.or_eq_true, Bool.not_eq_true', not_or, Bool.not_eq_false] at differs
      obtain ⟨⟨onLine, -⟩, -⟩ := differs
      exact onLine
    split
    · exact law.loseArbitration onLine
    · exact law.errorAttempt onLine

/-- R93, R98: a falling edge, by where the receive path stands. -/
theorem Hbp.Law.edge (read : Bool) : (h.edge read).Law := by
  have send : { h with lineIdle := false }.SendLaw := law.send.same rfl rfl rfl rfl rfl rfl
  have counted : ({ h with lineIdle := false }.countCell read).Law :=
    .countCell (h := { h with lineIdle := false }) law.receive.kept rfl send law.attempt.sending read
  have elsewhere (noFrame : h.path = .off ∨ h.path = .syncing ∨ h.path = .skipping) : (h.edge read).Law := by
    rw [Hbp.edge_of_noFrame noFrame]
    refine ⟨law.on, ⟨fun _ => iff_of_false nofun ?_, law.receive.between, law.receive.inFrame, law.receive.counted,
      law.receive.kept⟩, send, ⟨law.attempt.onFrame, law.attempt.arbitrating, law.attempt.sending⟩⟩
    rcases noFrame with path | path | path <;> simp [path]
  cases path : h.path with
  | off => exact absurd path law.on
  | syncing => exact elsewhere (by simp [path])
  | skipping => exact elsewhere (by simp [path])
  | inFrame =>
    rw [Hbp.edge_of_inFrame path]
    exact counted.compare read
  | ready =>
    by_cases waiting : h.sender = .waiting
    · have none : h.cellsReceived = 0 := law.receive.between (by simp [path])
      have begun : ({ h with lineIdle := false }.beginAttempt.countCell read).Law :=
        .countCell (h := { h with lineIdle := false }.beginAttempt) law.receive.kept rfl
          (Hbp.SendLaw.beginAttempt send waiting) (show Sender.arbitrating = .sending → _ from nofun) read
      simp only [Hbp.edge, path, waiting, if_true]
      exact begun.compare read
    · simp only [Hbp.edge, path, waiting, if_false]
      exact counted.compare read

theorem Hbp.Law.move {g : Hbp} (move : h.Move g) : g.Law := by
  cases move with
  | edge read => exact law.edge read
  | lost arbitrating =>
    have onLine : h.onLine = true := Hbp.onLine_iff.mpr (.inl arbitrating)
    refine (law.keepCell (law.attempt.onFrame onLine) false).loseArbitration ?_
    rwa [Hbp.keepCell_onLine]
  | errored read onLine =>
    refine (law.keepCell (law.attempt.onFrame onLine) read).errorAttempt ?_
    rwa [Hbp.keepCell_onLine]
  | malformed onLine =>
    rw [Hbp.errorAttempt_withPath]
    obtain ⟨offLine, path, -⟩ := h.errorAttempt_keeps
    refine (law.errorAttempt onLine).skip ?_ (by simp [offLine])
    rw [path]
    exact law.attempt.onFrame onLine
  | skipped inFrame offLine => exact law.skip inFrame (by simp [offLine])

/-- R92: a timed window start closes the period and hands a new frame over. -/
theorem Hbp.Law.newWindow (f : DemandFrame) : (h.settlePeriod.takeDemand f).Law := by
  have settled : h.settlePeriod.Law := by
    rw [Hbp.settlePeriod_eq]
    exact ⟨law.on, law.receive.same rfl rfl rfl rfl, law.send.same rfl rfl rfl rfl rfl rfl,
      ⟨law.attempt.onFrame, law.attempt.arbitrating, law.attempt.sending⟩⟩
  have send := settled.send.takeDemand f
  rw [Hbp.takeDemand_eq] at send ⊢
  refine ⟨settled.on, settled.receive.same rfl rfl rfl rfl, send, ?_⟩
  generalize h.settlePeriod = g at settled send
  by_cases onLine : g.onLine = true
  · simp only [onLine, if_true]
    exact ⟨fun _ => settled.attempt.onFrame onLine, settled.attempt.arbitrating, settled.attempt.sending⟩
  · simp only [onLine]
    exact .ofOffLine nofun

end attempt

/-! ### The frame end -/

section frameEnd
variable {s : State}

/-- R99: a frame that is checked leaves the receive path ready, and is counted. -/
theorem State.checkFrame_hbp (s : State) : ∃ received discarded,
    s.checkFrame.hbp = { s.hbp.toReady with framesReceived := received, framesDiscarded := discarded } := by
  unfold State.checkFrame
  split
  · exact ⟨_, s.hbp.framesDiscarded, rfl⟩
  · exact ⟨s.hbp.framesReceived, _, rfl⟩

/-- R96: a completed attempt leaves the line as it is. -/
theorem Hbp.completeAttempt_keeps (h : Hbp) : h.completeAttempt.onLine = false
    ∧ h.completeAttempt.lineIdle = h.lineIdle := by
  unfold Hbp.completeAttempt
  split <;> exact ⟨rfl, rfl⟩

theorem State.checkFrame_law (send : s.hbp.SendLaw) (offLine : ¬ s.hbp.onLine = true) (idle : s.hbp.lineIdle = true) :
    s.checkFrame.hbp.Law := by
  obtain ⟨received, discarded, checked⟩ := s.checkFrame_hbp
  rw [checked]
  exact .toReady send offLine idle received discarded

theorem State.frameEnd_law (law : s.hbp.Law) : s.frameEnd.hbp.Law := by
  have send : { s.hbp with lineIdle := true }.SendLaw := law.send.same rfl rfl rfl rfl rfl rfl
  have outside (path : s.hbp.path ≠ .inFrame) : ¬ s.hbp.onLine = true := fun onLine => path (law.attempt.onFrame onLine)
  cases path : s.hbp.path with
  | off => exact absurd path law.on
  | ready =>
    rw [State.frameEnd_of_noFrame (.inr path)]
    refine ⟨law.on, ⟨fun _ => iff_of_true rfl path, law.receive.between, law.receive.inFrame, law.receive.counted,
      law.receive.kept⟩, send, ⟨law.attempt.onFrame, law.attempt.arbitrating, law.attempt.sending⟩⟩
  | syncing =>
    rw [State.frameEnd_of_syncing path]
    exact Hbp.Law.toReady send (outside (by simp [path])) rfl s.hbp.framesReceived s.hbp.framesDiscarded
  | skipping =>
    rw [State.frameEnd_of_skipping path]
    exact Hbp.Law.toReady send (outside (by simp [path])) rfl s.hbp.framesReceived _
  | inFrame =>
    cases onLine : s.hbp.onLine with
    | false =>
      rw [State.frameEnd_of_received path onLine]
      exact State.checkFrame_law (s := s.withHbp { s.hbp with lineIdle := true }) send
        (fun on => Bool.false_ne_true (onLine.symm.trans on)) rfl
    | true =>
      by_cases driven : 78 ≤ s.hbp.cellsReceived
      · obtain ⟨offLine, idle⟩ := Hbp.completeAttempt_keeps { s.hbp with lineIdle := true }
        rw [State.frameEnd_of_driven path onLine driven]
        exact Hbp.Law.toReady (Hbp.SendLaw.completeAttempt send onLine)
          (fun on => Bool.false_ne_true (offLine.symm.trans on)) idle _ _
      · rw [State.frameEnd_of_cutShort path onLine (Nat.lt_of_not_le driven)]
        obtain ⟨offLine, -, idle⟩ := Hbp.errorAttempt_keeps { s.hbp with lineIdle := true }
        exact State.checkFrame_law (s := s.withHbp (Hbp.errorAttempt { s.hbp with lineIdle := true }))
          (Hbp.SendLaw.errorAttempt send onLine) (fun on => Bool.false_ne_true (offLine.symm.trans on)) idle

end frameEnd

/-! ### Every step -/

theorem State.BusLaw.move {s t : State} (running : s.running = true) (move : s.Move t) (h : s.BusLaw) : t.BusLaw := by
  have law := h.hbpLaw running
  refine Hbp.Law.busLaw ?_ (move.keepsRunning.1.trans running)
  cases move with
  | lockers records filing ocl ports =>
    rw [ports.hbp]
    exact law
  | lockedOut | collected | released | assigned | freed | warned | unwarned | holdEnded => simpa using law
  | line g moved => exact law.move moved
  | frameEnd => exact State.frameEnd_law law
  | timedStart =>
    rw [State.timedStart_hbp]
    exact law.newWindow _

/-- R91: HBP begins to sync with its reset values. -/
theorem State.BusLaw.ofWoken {s : State} (image : List Byte) (asleep : s.Asleep) : (s.endStarting image).BusLaw := by
  obtain ⟨idle, hbp⟩ : ∃ idle, s.hbp = { Hbp.reset with lineIdle := idle } := ⟨_, asleep.dormant.hbp⟩
  refine Hbp.Law.busLaw ?_ (by simp [State.running, Station.running])
  rw [State.endStarting_hbp, hbp, Hbp.startSync_eq]
  cases idle with
  | false => exact ⟨nofun, .ofEmpty (fun _ => iff_of_false nofun nofun) nofun rfl rfl, .ofIdle rfl rfl nofun rfl rfl
      (Nat.zero_le _), .ofOffLine nofun⟩
  | true => exact ⟨nofun, .ofEmpty (fun _ => iff_of_true rfl rfl) nofun rfl rfl, .ofIdle rfl rfl nofun rfl rfl
      (Nat.zero_le _), .ofOffLine nofun⟩

theorem State.BusLaw.step {s t : State} (station : s.StationLaw) (h : s.BusLaw) (e : step s = .next t) : t.BusLaw :=
  step_keepsLaw (fun _ => .ofAsleep) (fun _ image => .ofWoken image) (fun _ _ => State.BusLaw.move) station h e

end Sys2Proof.Machine

/-! PROOFS. The laws of the peer table, the saturating counts, the throttle and the shed, which every step keeps (R51,
R90, R104, R108, R109, R119, R129 to R134, R166, R167). -/

namespace Sys2Proof.Machine

/-! ### The shed law (R119, R129 to R134) -/

section shedLaw
variable {s t : State}

theorem State.Asleep.shed (asleep : s.Asleep) : s.fsc.shed = .clear := by
  rw [asleep.dormant.fsc]
  rfl

theorem State.ShedLaw.ofAsleep (asleep : s.Asleep) : s.ShedLaw where
  hold := by simp [asleep.releaseHold, asleep.shed]
  level running := absurd running (by simp [asleep.stopped])

/-- R129: FEEDER-WARN is read once as the part wakes. -/
theorem State.ShedLaw.ofWoken (image : List Byte) (asleep : s.Asleep) : (s.endStarting image).ShedLaw := by
  have held := asleep.releaseHold
  have clear := asleep.shed
  cases warn : s.fsc.feederWarn <;> constructor <;> simp [Fsc.readWarn_eq, held, clear, warn]

/-- R130 to R133: the law of a part that runs, from the shed state and what it goes by. -/
theorem State.ShedLaw.same (h : s.ShedLaw) (running : s.running = true)
    (hold : t.fsc.releaseHold.isSome = s.fsc.releaseHold.isSome) (warn : t.fsc.feederWarn = s.fsc.feederWarn)
    (releasing : t.fsc.shed = .releasing ↔ s.fsc.shed = .releasing)
    (warned : t.fsc.shed = .warned ↔ s.fsc.shed = .warned) : t.ShedLaw where
  hold := by rw [hold, releasing]; exact h.hold
  level _ := by rw [warn, warned]; exact h.level running

theorem State.ShedLaw.sameFsc (h : s.ShedLaw) (running : s.running = true) (fsc : t.fsc = s.fsc) : t.ShedLaw :=
  h.same running (by rw [fsc]) (by rw [fsc]) (by rw [fsc]) (by rw [fsc])

theorem State.warnReleased_of_other (other : s.fsc.shed ≠ .warned) : s.warnReleased = s := by
  unfold State.warnReleased
  split
  next warned => exact absurd warned other
  all_goals rfl

variable (h : s.ShedLaw)
include h

theorem State.ShedLaw.hold_none (other : s.fsc.shed ≠ .releasing) : s.fsc.releaseHold = none :=
  Option.not_isSome_iff_eq_none.mp fun runs => other (h.hold.mp runs)

/-- R131, R132: an assertion leads to WARNED from every shed state. -/
theorem State.ShedLaw.warnAsserted : (s.withFsc { s.fsc with feederWarn := true }).warnAsserted.ShedLaw := by
  cases shed : s.fsc.shed with
  | clear =>
    have none := h.hold_none (by simp [shed])
    rw [State.warnAsserted_of_clear (by simpa using shed)]
    constructor <;> simp [State.shedStart_fsc, none]
  | warned =>
    have none := h.hold_none (by simp [shed])
    rw [State.warnAsserted_of_warned (by simpa using shed)]
    constructor <;> simp [shed, none]
  | releasing =>
    rw [State.warnAsserted_of_releasing (by simpa using shed)]
    constructor <;> simp
  | liftDue =>
    have none := h.hold_none (by simp [shed])
    rw [State.warnAsserted_of_liftDue (by simpa using shed)]
    constructor <;> simp [none]

/-- R130: a release leads from WARNED to RELEASING, with the hold at its start. -/
theorem State.ShedLaw.warnReleased : (s.withFsc { s.fsc with feederWarn := false }).warnReleased.ShedLaw := by
  by_cases warned : s.fsc.shed = .warned
  · rw [State.warnReleased_of_warned (by simpa using warned)]
    constructor <;> simp
  · rw [State.warnReleased_of_other (by simpa using warned)]
    exact ⟨h.hold, fun _ => iff_of_false nofun warned⟩

/-- R133: the hold that ends leaves the lift due. -/
theorem State.ShedLaw.releaseExpired (running : s.running = true) (runs : s.fsc.releaseHold.isSome) :
    s.releaseExpired.ShedLaw := by
  have releasing := h.hold.mp runs
  refine ⟨iff_of_false nofun nofun, fun _ => iff_of_false (fun warn => ?_) nofun⟩
  simpa [releasing] using (h.level running).mp warn

theorem State.ShedLaw.move (running : s.running = true) (move : s.Move t) : t.ShedLaw := by
  cases move with
  | lockers records filing ocl ports =>
    exact h.same running ports.hold ports.warn (by rw [ports.shed]) (by rw [ports.shed])
  | lockedOut | collected | released | assigned | freed | line | frameEnd => exact h.sameFsc running (by simp)
  | timedStart =>
    refine h.same running (by rw [State.timedStart_fsc]) (by rw [State.timedStart_fsc]) ?_ ?_
    all_goals
      rw [State.timedStart_fsc]
      cases s.fsc.shed <;> simp [Shed.settle]
  | warned => exact h.warnAsserted
  | unwarned => exact h.warnReleased
  | holdEnded runs => exact h.releaseExpired running runs

end shedLaw

theorem State.ShedLaw.step {s t : State} (station : s.StationLaw) (h : s.ShedLaw) (e : step s = .next t) : t.ShedLaw :=
  step_keepsLaw (fun _ => .ofAsleep) (fun _ image => .ofWoken image) (fun _ _ running move law => law.move running move)
    station h e

/-! ### The throttle law (R166, R167) -/

section throttleLaw
variable {s t : State}

theorem State.ThrottleLaw.ofAsleep (asleep : s.Asleep) : s.ThrottleLaw :=
  .ofCleared asleep.dormant.misses asleep.dormant.throttle asleep.dormant.throtT

theorem State.ThrottleLaw.samePnl (h : s.ThrottleLaw) (pnl : t.pnl = s.pnl) : t.ThrottleLaw :=
  h.same (by rw [pnl]) (by rw [pnl]) (by rw [pnl])

theorem State.ThrottleLaw.move (h : s.ThrottleLaw) (move : s.Move t) : t.ThrottleLaw := by
  cases move with
  | lockers records filing ocl ports => exact ports.throttle h
  | lockedOut n l c e =>
    rw [State.endInLockout_eq]
    have pnl : (s.setLocker n l).pnl = s.pnl := rfl
    unfold Pnl.afterLeaving
    split <;> exact h.same rfl rfl rfl
  | collected | released | assigned | freed | line | frameEnd | timedStart | warned | unwarned | holdEnded =>
    exact h.samePnl (by simp)

end throttleLaw

theorem State.ThrottleLaw.step {s t : State} (station : s.StationLaw) (h : s.ThrottleLaw) (e : step s = .next t) :
    t.ThrottleLaw :=
  step_keepsLaw (fun _ => .ofAsleep) (fun _ _ asleep => (State.ThrottleLaw.ofAsleep asleep).samePnl (by simp))
    (fun _ _ _ move law => law.move move) station h e

/-! ### The peer law (R107 to R109) -/

/-- A record of the table after a frame is a record of the table before, or carries what the frame tells. -/
theorem mem_of_mem_storePeer {fresh p : Peer} {ps : List Peer} (member : p ∈ storePeer fresh ps) :
    p ∈ ps ∨ p.station = fresh.station ∧ p.free = fresh.free ∧ (p = fresh ∨ p.age = 0) := by
  induction ps with
  | nil => exact .inr (by simp [List.mem_singleton.mp member])
  | cons q rest ih =>
    rw [storePeer] at member
    split at member
    · rcases List.mem_cons.mp member with rfl | before
      · exact .inr ⟨rfl, rfl, .inl rfl⟩
      · exact .inl before
    split at member
    next same =>
      rcases List.mem_cons.mp member with rfl | later
      · exact .inr ⟨same.symm, rfl, .inr rfl⟩
      · exact .inl (List.mem_cons_of_mem _ later)
    next =>
      rcases List.mem_cons.mp member with rfl | later
      · exact .inl List.mem_cons_self
      · exact (ih later).imp_left (List.mem_cons_of_mem _)

/-- R109: a record that aging keeps is a record before it, not yet too old. -/
theorem mem_agePeers {p : Peer} {ps : List Peer} :
    p ∈ agePeers ps ↔ ∃ q ∈ ps, p = { q with age := q.age + 1 } ∧ q.age + 1 < 3 := by
  simp only [agePeers, List.mem_filter, List.mem_map, decide_eq_true_eq]
  constructor
  · rintro ⟨⟨q, member, rfl⟩, young⟩
    exact ⟨q, member, rfl, young⟩
  · rintro ⟨q, member, rfl, young⟩
    exact ⟨⟨q, member, rfl⟩, young⟩

section peerLaw
variable {s t : State}

theorem State.PeerLaw.ofNone (none : s.pvt.peers = []) : s.PeerLaw := by
  constructor <;> simp [none]

variable (h : s.PeerLaw)
include h

theorem State.PeerLaw.same (peers : t.pvt.peers = s.pvt.peers) (cfg : t.cfg = s.cfg) : t.PeerLaw where
  sorted := by rw [peers]; exact h.sorted
  member := by rw [peers, cfg]; exact h.member

/-- R107, R108: PVT takes a frame. -/
theorem State.PeerLaw.takeFrame (f : DemandFrame) (pvt : t.pvt = s.pvt.takeFrame s.cfg f) (cfg : t.cfg = s.cfg) :
    t.PeerLaw := by
  by_cases own : f.station = s.cfg.station
  · rw [Pvt.takeFrame_of_own own] at pvt
    exact h.same (by rw [pvt]) cfg
  by_cases outside : (!globalEnabled s.cfg || !inRange s.cfg.globalBase s.cfg.globalLimit f.station) = true
  · rw [Pvt.takeFrame, if_neg own, if_pos outside] at pvt
    exact h.same (by rw [pvt]) cfg
  · rw [Pvt.takeFrame, if_neg own, if_neg outside] at pvt
    simp only [Bool.or_eq_true, Bool.not_eq_true', not_or, Bool.not_eq_false] at outside
    refine ⟨?_, fun p member => ?_⟩
    · rw [pvt]
      exact storePeer_pairwise h.sorted
    · rw [pvt] at member
      rw [cfg]
      rcases mem_of_mem_storePeer member with before | ⟨station, free, fresh⟩
      · exact h.member p before
      · have young : p.age ≤ 2 := by rcases fresh with rfl | age <;> simp [peerOf, *]
        have few : p.free ≤ 16 := by rw [free]; exact Nat.min_le_left ..
        have number : p.station = f.station := station
        exact ⟨by rwa [number], outside.1, by rw [number]; exact outside.2, young, few⟩

/-- R109: a timed window start ages the records. -/
theorem State.PeerLaw.age (peers : t.pvt.peers = agePeers s.pvt.peers) (cfg : t.cfg = s.cfg) : t.PeerLaw := by
  refine ⟨?_, fun p member => ?_⟩
  · rw [peers, agePeers]
    have aged : (s.pvt.peers.map fun p => { p with age := p.age + 1 }).Pairwise fun p q => p.station < q.station :=
      List.pairwise_map.mpr h.sorted
    exact aged.filter _
  · rw [peers] at member
    obtain ⟨q, before, rfl, young⟩ := mem_agePeers.mp member
    obtain ⟨other, enabled, inside, _, few⟩ := h.member q before
    rw [cfg]
    exact ⟨other, enabled, inside, Nat.le_of_lt_succ young, few⟩

theorem State.PeerLaw.move (running : s.running = true) (move : s.Move t) : t.PeerLaw := by
  cases move with
  | lockers records filing ocl ports => exact h.same (by rw [ports.pvt]) ports.cfg
  | lockedOut | collected | released | assigned | freed | line | warned | unwarned | holdEnded =>
    exact h.same (by simp) (by simp)
  | frameEnd =>
    refine State.frameEnd_cases (P := State.PeerLaw) (fun _ => h.same rfl rfl) fun g => ?_
    unfold State.checkFrame
    split
    · exact h.takeFrame _ rfl rfl
    · exact h.same rfl rfl
  | timedStart =>
    refine h.age ?_ (by simp)
    rw [State.timedStart_pvt, Pvt.windowStart_eq _ _ running]

end peerLaw

theorem State.PeerLaw.step {s t : State} (station : s.StationLaw) (h : s.PeerLaw) (e : step s = .next t) :
    t.PeerLaw := by
  have none {s : State} (asleep : s.Asleep) : s.pvt.peers = [] := by rw [asleep.dormant.pvt]; rfl
  exact step_keepsLaw (fun _ asleep => .ofNone (none asleep)) (fun _ _ asleep => .ofNone (by simpa using none asleep))
    (fun _ _ running move law => law.move running move) station h e

/-! ### The counts (R51, R90, R104) -/

theorem satInc_le (n : Nat) : satInc n ≤ 65535 := Nat.min_le_left ..

/-- R90: the counts of HBP. -/
structure Hbp.CountLaw (h : Hbp) : Prop where
  received  : h.framesReceived ≤ 65535
  discarded : h.framesDiscarded ≤ 65535
  errored   : h.erroredAttempts ≤ 65535
  failed    : h.failedWindows ≤ 65535

/-- R104: the counts of PVT. -/
structure Pvt.CountLaw (p : Pvt) : Prop where
  outOfRange : p.outOfRange ≤ 65535
  clashes    : p.clashes ≤ 65535
  unsentRun  : p.unsentRun ≤ 65535

/-- R51: the counts of a locker. -/
structure Locker.CountLaw (l : Locker) : Prop where
  holdElapsed  : l.holdElapsed ≤ 65535
  belowRun     : l.belowRun ≤ 65535
  belowTotal   : l.belowTotal ≤ 65535
  belowLongest : l.belowLongest ≤ 65535
  faultRun     : l.faultRun ≤ 65535

section hbp
variable {h : Hbp} (law : h.CountLaw)
include law

theorem Hbp.CountLaw.errorAttempt : h.errorAttempt.CountLaw := by
  by_cases current : h.attemptFrame = .current
  · by_cases few : h.attemptCount < 15
    · rw [Hbp.errorAttempt_of_few current few]
      exact ⟨law.received, law.discarded, satInc_le _, law.failed⟩
    · rw [Hbp.errorAttempt_of_sixteenth current (Nat.le_of_not_lt few)]
      exact ⟨law.received, law.discarded, satInc_le _, law.failed⟩
  · rw [Hbp.errorAttempt_of_superseded current]
    exact ⟨law.received, law.discarded, satInc_le _, law.failed⟩

theorem Hbp.CountLaw.toReady : h.toReady.CountLaw := ⟨law.received, law.discarded, law.errored, law.failed⟩

theorem Hbp.CountLaw.completeAttempt : h.completeAttempt.CountLaw := by
  unfold Hbp.completeAttempt
  split <;> exact ⟨law.received, law.discarded, law.errored, law.failed⟩

theorem Hbp.CountLaw.keepCell (read : Bool) : (h.keepCell read).CountLaw := by
  unfold Hbp.keepCell
  split
  · exact ⟨law.received, law.discarded, law.errored, law.failed⟩
  · exact law

theorem Hbp.CountLaw.cell (read : Bool) : ((h.countCell read).compare read).CountLaw := by
  have counted : (h.countCell read).CountLaw := by
    rw [Hbp.countCell_eq]
    exact ⟨law.received, law.discarded, law.errored, law.failed⟩
  unfold Hbp.compare
  split
  · exact counted
  split
  · exact ⟨counted.received, counted.discarded, counted.errored, counted.failed⟩
  · exact counted.errorAttempt

theorem Hbp.CountLaw.edge (read : Bool) : (h.edge read).CountLaw := by
  have busy : { h with lineIdle := false }.CountLaw := ⟨law.received, law.discarded, law.errored, law.failed⟩
  have begun : { h with lineIdle := false }.beginAttempt.CountLaw :=
    ⟨law.received, law.discarded, law.errored, law.failed⟩
  simp only [Hbp.edge]
  split
  · split
    · exact begun.cell read
    · exact busy.cell read
  · exact busy.cell read
  all_goals exact busy

theorem Hbp.CountLaw.move {g : Hbp} (move : h.Move g) : g.CountLaw := by
  cases move with
  | edge read => exact law.edge read
  | lost =>
    have kept := law.keepCell false
    exact ⟨kept.received, kept.discarded, kept.errored, kept.failed⟩
  | errored read => exact (law.keepCell read).errorAttempt
  | malformed =>
    have skipping : { h with path := .skipping }.CountLaw := ⟨law.received, law.discarded, law.errored, law.failed⟩
    exact skipping.errorAttempt
  | skipped => exact ⟨law.received, law.discarded, law.errored, law.failed⟩

/-- R92: a period that closes unsent is counted. -/
theorem Hbp.CountLaw.newWindow (f : DemandFrame) : (h.settlePeriod.takeDemand f).CountLaw := by
  rw [Hbp.takeDemand_eq, Hbp.settlePeriod_eq]
  refine ⟨law.received, law.discarded, law.errored, ?_⟩
  show (if _ then _ else _) ≤ 65535
  split
  · exact satInc_le _
  · exact law.failed

end hbp

theorem State.checkFrame_counts {s : State} (law : s.hbp.CountLaw) : s.checkFrame.hbp.CountLaw := by
  unfold State.checkFrame
  split
  · exact ⟨satInc_le _, law.discarded, law.errored, law.failed⟩
  · exact ⟨law.received, satInc_le _, law.errored, law.failed⟩

theorem State.frameEnd_counts {s : State} (law : s.hbp.CountLaw) : s.frameEnd.hbp.CountLaw := by
  have idle : { s.hbp with lineIdle := true }.CountLaw := ⟨law.received, law.discarded, law.errored, law.failed⟩
  simp only [State.frameEnd]
  split
  · exact idle
  · exact idle
  · exact ⟨law.received, law.discarded, law.errored, law.failed⟩
  · exact ⟨law.received, satInc_le _, law.errored, law.failed⟩
  split
  · split
    · exact idle.completeAttempt.toReady
    · exact State.checkFrame_counts idle.errorAttempt
  · exact State.checkFrame_counts idle

section pvt
variable {p : Pvt} (law : p.CountLaw)
include law

theorem Pvt.CountLaw.takeFrame (c : Config) (f : DemandFrame) : (p.takeFrame c f).CountLaw := by
  unfold Pvt.takeFrame
  split
  · exact ⟨law.outOfRange, satInc_le _, law.unsentRun⟩
  split
  · exact ⟨satInc_le _, law.clashes, law.unsentRun⟩
  · exact ⟨law.outOfRange, law.clashes, law.unsentRun⟩

theorem Pvt.CountLaw.windowStart (r : PeriodReport) (lone : Bool) (running : p.station.running = true) :
    (p.windowStart r lone).CountLaw := by
  rw [Pvt.windowStart_eq r lone running]
  refine ⟨law.outOfRange, law.clashes, ?_⟩
  cases r with
  | notDue => exact law.unsentRun
  | sent => exact Nat.zero_le _
  | notSent => exact satInc_le _

end pvt

section locker
variable {l m : Locker}

/-- R17: no hold, or one at its start. -/
theorem Locker.CountLaw.ofZero (held : l.holdElapsed = 0) (run : l.belowRun = 0) (total : l.belowTotal = 0)
    (longest : l.belowLongest = 0) (faults : l.faultRun = 0) : l.CountLaw := by
  constructor <;> omega

variable (law : l.CountLaw)
include law

theorem Locker.CountLaw.same (held : m.holdElapsed = l.holdElapsed) (run : m.belowRun = l.belowRun)
    (total : m.belowTotal = l.belowTotal) (longest : m.belowLongest = l.belowLongest)
    (faults : m.faultRun = l.faultRun) : m.CountLaw where
  holdElapsed := by rw [held]; exact law.holdElapsed
  belowRun := by rw [run]; exact law.belowRun
  belowTotal := by rw [total]; exact law.belowTotal
  belowLongest := by rw [longest]; exact law.belowLongest
  faultRun := by rw [faults]; exact law.faultRun

/-- R56 to R60: a supervised scan counts. -/
theorem Locker.CountLaw.supervise (floor overtemp : Nat) : (l.supervise floor overtemp).CountLaw := by
  unfold Locker.supervise
  split
  · exact ⟨satInc_le _, law.belowRun, law.belowTotal, law.belowLongest, satInc_le _⟩
  next v _ =>
    by_cases below : v.val < floor
    · simp only [below, if_true]
      exact ⟨satInc_le _, satInc_le _, satInc_le _, max_le law.belowLongest (satInc_le _), Nat.zero_le _⟩
    · simp only [below, if_false]
      exact ⟨satInc_le _, Nat.zero_le _, law.belowTotal, law.belowLongest, Nat.zero_le _⟩

theorem Locker.CountLaw.move {overtemp : Nat} (move : l.Move overtemp m) : m.CountLaw := by
  cases move with
  | reported => split <;> exact law.same rfl rfl rfl rfl rfl
  | supervised floor => exact law.supervise floor overtemp
  | held => exact .ofZero rfl rfl rfl rfl rfl
  | _ => exact law.same rfl rfl rfl rfl rfl

theorem Locker.CountLaw.booking (move : l.BookingMove m) : m.CountLaw := by
  cases move with
  | lockedOutFiled _ _ same | lockedOutQueued _ _ same =>
    rw [same]
    exact law.same rfl rfl rfl rfl rfl
  | _ => exact law.same rfl rfl rfl rfl rfl

end locker

theorem Locker.Dormant.countLaw {l : Locker} (h : l.Dormant) : l.CountLaw := by
  rw [h]
  exact .ofZero rfl rfl rfl rfl rfl

theorem Locker.Dormant.setUp_countLaw {l : Locker} (h : l.Dormant) (hidden : Bool) : (l.setUp hidden).CountLaw := by
  rw [h]
  unfold Locker.setUp
  split
  · exact .ofZero rfl rfl rfl rfl rfl
  split <;> exact .ofZero rfl rfl rfl rfl rfl

/-- R90, R104: the counts of the two blocks of the heat bus. -/
structure State.BusCounts (s : State) : Prop where
  hbp : s.hbp.CountLaw
  pvt : s.pvt.CountLaw

section busCounts
variable {s t : State}

theorem State.BusCounts.ofAsleep (asleep : s.Asleep) : s.BusCounts := by
  obtain ⟨idle, hbp⟩ : ∃ idle, s.hbp = { Hbp.reset with lineIdle := idle } := ⟨_, asleep.dormant.hbp⟩
  obtain ⟨station, pvt⟩ : ∃ station, s.pvt = { Pvt.reset with station := station } := ⟨_, asleep.dormant.pvt⟩
  constructor
  · rw [hbp]
    constructor <;> exact Nat.zero_le _
  · rw [pvt]
    constructor <;> exact Nat.zero_le _

theorem State.BusCounts.ofWoken (image : List Byte) (asleep : s.Asleep) : (s.endStarting image).BusCounts := by
  have counts := State.BusCounts.ofAsleep asleep
  obtain ⟨received, discarded, errored, failed⟩ := counts.hbp
  obtain ⟨outOfRange, clashes, unsentRun⟩ := counts.pvt
  refine ⟨?_, ?_⟩
  · rw [State.endStarting_hbp, Hbp.startSync_eq]
    exact ⟨received, discarded, errored, failed⟩
  · rw [State.endStarting_pvt]
    exact ⟨outOfRange, clashes, unsentRun⟩

theorem State.BusCounts.move (h : s.BusCounts) (running : s.running = true) (move : s.Move t) : t.BusCounts := by
  cases move with
  | lockers records filing ocl ports => exact ⟨by rw [ports.hbp]; exact h.hbp, by rw [ports.pvt]; exact h.pvt⟩
  | lockedOut | collected | released | assigned | freed | warned | unwarned | holdEnded =>
    exact ⟨by simpa using h.hbp, by simpa using h.pvt⟩
  | line g moved => exact ⟨h.hbp.move moved, h.pvt⟩
  | frameEnd =>
    refine ⟨State.frameEnd_counts h.hbp,
      State.frameEnd_cases (P := fun t => t.pvt.CountLaw) (fun _ => h.pvt) fun g => ?_⟩
    unfold State.checkFrame
    split
    · exact h.pvt.takeFrame _ _
    · exact h.pvt
  | timedStart =>
    refine ⟨?_, ?_⟩
    · rw [State.timedStart_hbp]
      exact h.hbp.newWindow _
    · rw [State.timedStart_pvt]
      exact h.pvt.windowStart _ _ running

end busCounts

theorem State.BusCounts.step {s t : State} (station : s.StationLaw) (h : s.BusCounts) (e : step s = .next t) :
    t.BusCounts :=
  step_keepsLaw (fun _ => .ofAsleep) (fun _ image => .ofWoken image) (fun _ _ running move law => law.move running move)
    station h e

section countLaw
variable {s : State}

theorem State.CountLaw.busCounts (h : s.CountLaw) : s.BusCounts := by
  obtain ⟨received, discarded, errored, failed⟩ := h.hbp
  obtain ⟨outOfRange, clashes, unsentRun⟩ := h.pvt
  exact ⟨⟨received, discarded, errored, failed⟩, ⟨outOfRange, clashes, unsentRun⟩⟩

theorem State.CountLaw.locker (h : s.CountLaw) (n : LockerNo) : (s.locker n).CountLaw := by
  obtain ⟨held, run, total, longest, faults⟩ := h.lockers n
  exact ⟨held, run, total, longest, faults⟩

theorem State.CountLaw.of (bus : s.BusCounts) (misses : s.pnl.missCount ≤ 5) (lockers : ∀ n, (s.locker n).CountLaw) :
    s.CountLaw where
  hbp := ⟨bus.hbp.received, bus.hbp.discarded, bus.hbp.errored, bus.hbp.failed⟩
  pvt := ⟨bus.pvt.outOfRange, bus.pvt.clashes, bus.pvt.unsentRun⟩
  pnl := misses
  lockers n := ⟨(lockers n).holdElapsed, (lockers n).belowRun, (lockers n).belowTotal, (lockers n).belowLongest,
    (lockers n).faultRun⟩

end countLaw

/-- R51, R90, R104, R167: the counts of the blocks and of the lockers saturate; the miss count is bounded by the
throttle's law. -/
theorem State.CountLaw.step {s t : State} (station : s.StationLaw) (throttle : s.ThrottleLaw) (h : s.CountLaw)
    (e : step s = .next t) : t.CountLaw := by
  refine .of (h.busCounts.step station e) (throttle.step station e).bound fun n => ?_
  exact step_keepsRecordLaw (Q := fun _ => Locker.CountLaw) (fun _ _ dormant => dormant.countLaw)
    (fun _ _ hidden dormant => dormant.setUp_countLaw hidden) (fun _ _ _ move law => law.move move)
    (fun _ _ _ move law => law.booking move) station h.locker e n

/-- Settles O60: law by law, each kept by a part that does not run, by one that wakes and by every single change. -/
theorem everyStepKeepsPeersAndCounts : Obligations.EveryStepKeepsPeersAndCounts := by
  unfold Obligations.EveryStepKeepsPeersAndCounts
  exact ⟨fun _ _ station peers counts throttle e => ⟨peers.step station e, counts.step station throttle e,
    throttle.step station e⟩, fun _ _ station law e => law.step station e, fun _ _ station law e => law.step station e⟩

end Sys2Proof.Machine

/-! PROOFS. The reset, and the laws of the state that it leaves (R2, R183); and TSU at its scans (R52 to R63). -/

namespace Sys2Proof.Machine

/-! ### The reset (R183) -/

theorem State.resetPart_locker (s : State) (n : LockerNo) : s.resetPart.locker n = (s.locker n).afterReset := by
  simp [State.resetPart, State.locker]

/-- Settles O5: block by block, the reset writes its reset value. -/
theorem resetRestoresEveryBlock : Obligations.ResetRestoresEveryBlock := by
  unfold Obligations.ResetRestoresEveryBlock
  intro s
  have slots (p : ProfileNo) : s.resetPart.slots[p] = ⟨false, false, none⟩ := by
    simp [State.resetPart, State.reset, ProfileSlot.reset]
  refine ⟨s.resetPart, rfl, s.resetPart_locker, fun n => ?_, rfl, slots, rfl, rfl, rfl, rfl, rfl, rfl, rfl, rfl, rfl,
    rfl, rfl, rfl, rfl⟩
  rw [State.resetPart_locker]
  exact ⟨rfl, rfl, rfl, rfl, rfl, rfl, rfl, rfl, rfl, rfl, rfl, rfl, rfl, rfl, rfl, rfl, rfl, rfl, rfl, rfl, rfl, rfl,
    rfl, rfl, rfl, rfl, rfl, rfl, rfl, rfl, rfl⟩

/-- R183: the state after reset is one that a reset leaves. -/
theorem State.reset_resetPart : State.reset.resetPart = State.reset := by
  have lockers : (Vector.ofFn fun n => (State.reset.locker n).afterReset) = State.reset.lockers := by
    ext1 i below
    simp [State.reset, State.locker, Locker.afterReset, Locker.reset]
  rw [State.resetPart, lockers]
  rfl

/-- Settles O53: the state after reset is a part that does not run, at its reset values. -/
theorem lawsHoldAfterReset : Obligations.LawsHoldAfterReset := by
  unfold Obligations.LawsHoldAfterReset
  have asleep : State.reset.Asleep := State.reset_resetPart ▸ State.Asleep.ofReset State.reset
  have awakeNever : ¬ State.reset.running = true := by simp [asleep.stopped]
  refine ⟨⟨fun _ => asleep.dormant, fun running => absurd running awakeNever⟩, fun n => (asleep.locker n).latchLaw,
    .ofNone rfl rfl, State.reset_resetPart ▸ .ofReset _, .ofEmpty rfl rfl,
    .ofDormant asleep (fun _ => .inl rfl) rfl rfl, fun n => (asleep.locker n).heatLaw _,
    State.reset_resetPart ▸ .ofReset _, .ofNone rfl, ?_, .ofAsleep asleep, .ofAsleep asleep, .ofAsleep asleep,
    fun n => (asleep.locker n).causeLaw⟩
  exact .of (.ofAsleep asleep) (Nat.zero_le _) fun n => (asleep.locker n).countLaw

/-! ### The reading (R53) -/

/-- Two of three that pass a test. -/
theorem two_le_length_filter {p : Fin 255 → Bool} {a b c : Fin 255}
    (two : p a = true ∧ p b = true ∨ p a = true ∧ p c = true ∨ p b = true ∧ p c = true) :
    2 ≤ ([a, b, c].filter p).length := by
  rcases two with ⟨first, second⟩ | ⟨first, second⟩ | ⟨first, second⟩
  · simp [first, second]
  · cases other : p b <;> simp [first, second, other]
  · cases other : p a <;> simp [first, second, other]

/-- R53: what makes `m` the median of three samples. -/
def IsMedian (m a b c : Fin 255) : Prop :=
  (m = a ∨ m = b ∨ m = c) ∧ (a ≤ m ∧ b ≤ m ∨ a ≤ m ∧ c ≤ m ∨ b ≤ m ∧ c ≤ m)
    ∧ (m ≤ a ∧ m ≤ b ∨ m ≤ a ∧ m ≤ c ∨ m ≤ b ∧ m ≤ c)

theorem lower_eq_min (a b : Fin 255) : lower a b = min a b := (min_def a b).symm

theorem higher_eq_max (a b : Fin 255) : higher a b = max a b := (max_def a b).symm

/-- The median, with two of the samples in order. -/
theorem isMedian_of_le {a b : Fin 255} (ab : a ≤ b) (c : Fin 255) : IsMedian (max a (min b c)) a b c := by
  rcases le_total b c with bc | cb
  · rw [min_eq_left bc, max_eq_right ab]
    exact ⟨.inr (.inl rfl), .inl ⟨ab, le_rfl⟩, .inr (.inr ⟨le_rfl, bc⟩)⟩
  · rw [min_eq_right cb]
    rcases le_total a c with ac | ca
    · rw [max_eq_right ac]
      exact ⟨.inr (.inr rfl), .inr (.inl ⟨ac, le_rfl⟩), .inr (.inr ⟨cb, le_rfl⟩)⟩
    · rw [max_eq_left ca]
      exact ⟨.inl rfl, .inr (.inl ⟨le_rfl, ca⟩), .inl ⟨le_rfl, ab⟩⟩

theorem isMedian_median (a b c : Fin 255) : IsMedian (median a b c) a b c := by
  rw [median, lower_eq_min, higher_eq_max, lower_eq_min, higher_eq_max]
  rcases le_total a b with ab | ba
  · rw [min_eq_left ab, max_eq_right ab]
    exact isMedian_of_le ab c
  · rw [min_eq_right ba, max_eq_left ba]
    obtain ⟨one, below, above⟩ := isMedian_of_le ba c
    refine ⟨?_, ?_, ?_⟩
    · exact or_left_comm.mp one
    · exact below.imp And.symm Or.symm
    · exact above.imp And.symm Or.symm

/-- Settles O9: the median by the order of the samples; with a FAULT among them by the definition. -/
theorem readingOfThreeSamples : Obligations.ReadingOfThreeSamples := by
  unfold Obligations.ReadingOfThreeSamples
  intro a b c
  obtain ⟨one, below, above⟩ := isMedian_median a b c
  refine ⟨⟨median a b c, rfl, one, two_le_length_filter ?_, two_le_length_filter ?_⟩, ?_, ?_⟩
  · simpa using below
  · simpa using above
  · simp [readingOf, lower]
  · simp [readingOf]

/-! ### The scan (R52, R55 to R63) -/

section scan
variable {s : State} {n : LockerNo}

theorem exec_scanEvent_of_running (running : s.running = true) (x : Reading) :
    exec (.scanEvent n x) s = .next (s.scan n x) :=
  if_pos running

/-- R55: in the states that are neither reported nor supervised. -/
theorem State.scan_of_other (notBooked : (s.locker n).state ≠ .booked) (notHolding : (s.locker n).state ≠ .holding)
    (notOpened : (s.locker n).state ≠ .opened) (x : Reading) :
    s.scan n x = s.setLocker n ((s.locker n).takeSample x) := by
  have state : ((s.setLocker n ((s.locker n).takeSample x)).locker n).state = (s.locker n).state := by
    rw [State.setLocker_locker_same]
    rfl
  simp only [State.scan]
  split
  next holding => exact absurd (state.symm.trans holding) notHolding
  next opened => exact absurd (state.symm.trans opened) notOpened
  next booked => exact absurd (state.symm.trans booked) notBooked
  all_goals rfl

/-- R63, R80: a record whose reading has been reported. -/
def Locker.reported (l : Locker) (overtemp : Nat) : Locker :=
  if readingEligible l.reading overtemp then l else l.switchOff

theorem State.setLocker_reportReading (s : State) (n : LockerNo) (l : Locker) :
    (s.setLocker n l).reportReading n = s.setLocker n (l.reported s.cfg.overtemp) := by
  unfold State.reportReading Locker.reported
  rw [State.setLocker_locker_same, State.setLocker_cfg]
  split
  · rfl
  · rw [State.setLocker_setLocker]

theorem State.scan_of_booked (booked : (s.locker n).state = .booked) (x : Reading) :
    s.scan n x = s.setLocker n (((s.locker n).takeSample x).reported s.cfg.overtemp) := by
  have state : ((s.setLocker n ((s.locker n).takeSample x)).locker n).state = .booked := by
    rw [State.setLocker_locker_same]
    exact booked
  simp only [State.scan, state]
  exact s.setLocker_reportReading n _

/-- Settles O10: a scan is one write of the record, by the state and the reading. -/
theorem scanWithoutSupervision : Obligations.ScanWithoutSupervision := by
  unfold Obligations.ScanWithoutSupervision
  intro n x s running l r l1
  refine ⟨fun notBooked notHolding notOpened => ?_, fun booked cool => ?_, fun booked hot => ?_⟩
  · rw [exec_scanEvent_of_running running, State.scan_of_other notBooked notHolding notOpened]
    rfl
  · obtain ⟨v, reading, below⟩ := cool
    have eligible : readingEligible ((s.locker n).takeSample x).reading s.cfg.overtemp = true := by
      rw [show ((s.locker n).takeSample x).reading = .valid v from reading]
      exact decide_eq_true below
    rw [exec_scanEvent_of_running running, State.scan_of_booked booked, Locker.reported, if_pos eligible]
    rfl
  · have ineligible : ¬ readingEligible ((s.locker n).takeSample x).reading s.cfg.overtemp = true := by
      rcases hot with fault | ⟨v, reading, above⟩
      · rw [show ((s.locker n).takeSample x).reading = .fault from fault]
        exact Bool.false_ne_true
      · rw [show ((s.locker n).takeSample x).reading = .valid v from reading]
        exact fun below => absurd (of_decide_eq_true below) (Nat.not_lt.mpr above)
    rw [exec_scanEvent_of_running running, State.scan_of_booked booked, Locker.reported, if_neg ineligible]
    rfl

/-- R55 to R61: a supervised scan that raises no cause is one write of the record. -/
theorem State.setLocker_superviseScan_of_none {l m : Locker}
    (supervised : l.supervise (floorOf (s.profileOf l)) s.cfg.overtemp = m)
    (none : causeOf m (holdLimitOf (s.profileOf l)) (graceOf (s.profileOf l)) = none) :
    (s.setLocker n l).superviseScan n = s.setLocker n m := by
  have same : (s.setLocker n l).locker n = l := s.setLocker_locker_same n l
  have profile : (s.setLocker n l).profileOf l = s.profileOf l := rfl
  simp only [State.superviseScan, same, profile, State.setLocker_setLocker, State.setLocker_locker_same,
    State.setLocker_cfg, supervised, none]

/-- R61: one that raises a cause hands it on. -/
theorem State.setLocker_superviseScan_of_some {l m : Locker}
    (supervised : l.supervise (floorOf (s.profileOf l)) s.cfg.overtemp = m)
    {c : ScanCause} (raised : causeOf m (holdLimitOf (s.profileOf l)) (graceOf (s.profileOf l)) = some c) :
    (s.setLocker n l).superviseScan n = (s.setLocker n m).raise n c := by
  have same : (s.setLocker n l).locker n = l := s.setLocker_locker_same n l
  have profile : (s.setLocker n l).profileOf l = s.profileOf l := rfl
  simp only [State.superviseScan, same, profile, State.setLocker_setLocker, State.setLocker_locker_same,
    State.setLocker_cfg, supervised, raised]

theorem State.scan_of_opened (opened : (s.locker n).state = .opened) (x : Reading) :
    s.scan n x = (s.setLocker n ((s.locker n).takeSample x)).superviseScan n := by
  have state : ((s.setLocker n ((s.locker n).takeSample x)).locker n).state = .opened := by
    rw [State.setLocker_locker_same]
    exact opened
  simp only [State.scan, state]

theorem State.scan_of_holding (holding : (s.locker n).state = .holding) (x : Reading) :
    s.scan n x = (s.setLocker n (((s.locker n).takeSample x).reported s.cfg.overtemp)).superviseScan n := by
  have state : ((s.setLocker n ((s.locker n).takeSample x)).locker n).state = .holding := by
    rw [State.setLocker_locker_same]
    exact holding
  simp only [State.scan, state, State.setLocker_reportReading]

theorem State.raise_of_holding (holding : (s.locker n).state = .holding) (c : ScanCause) :
    s.raise n c = s.endInLockout n c.cause c.bookingEnd := by
  simp only [State.raise, holding]

/-- R19: in OPEN the first cause stands. -/
theorem State.setLocker_raise_of_opened {l : Locker} (opened : l.state = .opened) (c : ScanCause) :
    (s.setLocker n l).raise n c = s.setLocker n { l with deferredCause := some (l.deferredCause.getD c) } := by
  have same : (s.setLocker n l).locker n = l := s.setLocker_locker_same n l
  have raised : (s.setLocker n l).raise n c = if l.deferredCause = none
      then (s.setLocker n l).setLocker n { l with deferredCause := some c } else s.setLocker n l := by
    simp only [State.raise, same]
    split
    next holding => exact absurd (opened.symm.trans holding) nofun
    next => rfl
    all_goals simp_all only [reduceCtorEq]
  rw [raised]
  split
  next first => rw [State.setLocker_setLocker, first, Option.getD_none]
  next later =>
    obtain ⟨d, deferred⟩ := Option.ne_none_iff_exists'.mp later
    rw [deferred, Option.getD_some, ← deferred]

/-- R61: the cause, in the words of the chapter. -/
theorem causeOf_eq (l : Locker) (p : Profile) : causeOf l (holdLimitOf p) (graceOf p) =
    if 60 * p.holdLimit ≤ l.holdElapsed then some .expired
    else if 30 * p.graceCode.val < l.belowRun then some .cold
    else if 30 ≤ l.faultRun then some .sensor
    else none := by
  rw [causeOf, holdLimitOf, graceOf, Nat.mul_comm p.holdLimit]

end scan

/-- R63: a reading that is reported switches the heater off where it is not eligible. -/
theorem Locker.reported_eq {l : Locker} {overtemp : Nat} {off : Bool}
    (reported : off = !readingEligible l.reading overtemp) :
    l.reported overtemp = { l with heaterOn := l.heaterOn && !off, duty := if off then 0 else l.duty } := by
  unfold Locker.reported
  split
  next eligible => simp [reported, eligible]
  next ineligible =>
    have off' : off = true := by simpa [reported] using ineligible
    simp [off', Locker.switchOff]

/-- R56, R60: a supervised scan that reads FAULT. -/
theorem Locker.supervise_of_fault {l : Locker} (reading : l.reading = .fault) (floor overtemp : Nat) :
    l.supervise floor overtemp =
      { l with reading := .fault, holdElapsed := satInc l.holdElapsed, faultRun := satInc l.faultRun } := by
  rw [← reading]
  unfold Locker.supervise
  split
  · rfl
  next valid => exact absurd (reading.symm.trans valid) nofun

/-- R56 to R59: one that reads a temperature. -/
theorem Locker.supervise_of_valid {l : Locker} {v : Fin 255} (reading : l.reading = .valid v) (floor overtemp : Nat) :
    l.supervise floor overtemp = { l with
      reading := .valid v
      holdElapsed := satInc l.holdElapsed
      minReading := some (l.minReading.elim v (lower v))
      belowRun := if v.val < floor then satInc l.belowRun else 0
      belowTotal := if v.val < floor then satInc l.belowTotal else l.belowTotal
      belowLongest := if v.val < floor then max l.belowLongest (if v.val < floor then satInc l.belowRun else 0)
        else l.belowLongest
      faultRun := 0
      overheat := l.overheat || decide (overtemp ≤ v.val) } := by
  unfold Locker.supervise
  split
  next fault => exact absurd (reading.symm.trans fault) nofun
  next w valid =>
    obtain rfl : w = v := Reading.valid.inj (valid.symm.trans reading)
    rw [← valid]
    cases l.minReading <;> rfl

/-- Settles O11: the sample, the report and the count are one write of the record, and the state takes the cause. -/
theorem scanUnderSupervision : Obligations.ScanUnderSupervision := by
  unfold Obligations.ScanUnderSupervision
  intro n x s running l supervised p r below above run off l1 cause
  rw [exec_scanEvent_of_running running]
  have causeEq : causeOf l1 (holdLimitOf p) (graceOf p) = cause := causeOf_eq l1 p
  let m : Locker := { l.takeSample x with heaterOn := l.heaterOn && !off, duty := if off then 0 else l.duty }
  have record : m.supervise (floorOf p) s.cfg.overtemp = l1 := by
    cases reading : r with
    | fault =>
      rw [Locker.supervise_of_fault (l := m) reading]
      simp only [l1, below, above, run, reading, Bool.false_eq_true, if_false, Bool.or_false]
      rfl
    | valid v =>
      have least : m.minReading = l.minReading := rfl
      rw [Locker.supervise_of_valid (l := m) reading, least]
      cases min : l.minReading <;> simp only [l1, below, above, run, reading, min, decide_eq_true_eq] <;> rfl
  rcases supervised with holding | opened
  · have sampled : ((s.locker n).takeSample x).reported s.cfg.overtemp = m := by
      refine Locker.reported_eq (off := off) ?_
      have ineligible : off = (above || decide (r = .fault)) := by simp [off, holding]
      rw [ineligible, show ((s.locker n).takeSample x).reading = r from rfl]
      cases reading : r with
      | fault => simp [readingEligible]
      | valid v => simp [above, reading, readingEligible, ← decide_not]
    have holdingStill : ((s.setLocker n l1).locker n).state = .holding := by
      rw [State.setLocker_locker_same]
      exact holding
    rw [State.scan_of_holding holding, sampled]
    refine ⟨fun none => ?_, fun c some _ => ?_, fun c some opened => ?_⟩
    · rw [State.setLocker_superviseScan_of_none record (causeEq.trans none)]
    · rw [State.setLocker_superviseScan_of_some record (causeEq.trans some), State.raise_of_holding holdingStill]
    · exact absurd (opened.symm.trans holding) nofun
  · have sampled : (s.locker n).takeSample x = m := by
      have noOff : off = false := by simp [off, opened]
      simp only [m, noOff, Bool.not_false, Bool.and_true, Bool.false_eq_true, if_false]
      rfl
    have openedStill : l1.state = .opened := opened
    rw [State.scan_of_opened opened, sampled]
    refine ⟨fun none => ?_, fun c some holding => ?_, fun c some _ => ?_⟩
    · rw [State.setLocker_superviseScan_of_none record (causeEq.trans none)]
    · exact absurd (opened.symm.trans holding) nofun
    · rw [State.setLocker_superviseScan_of_some record (causeEq.trans some),
        State.setLocker_raise_of_opened openedStill]

end Sys2Proof.Machine

/-! PROOFS. The commands of the service line that write: ABORT-LOAD, CANCEL, RELEASE, HIDE, SHOW, STAFF-OPEN and BOOK
(R14, R17, R18, R26, R31 to R33, R139 to R143, R150 to R153, R171, R173). -/

namespace Sys2Proof.Machine

/-! ### A command that writes -/

/-- R177 to R179: a command is answered with what its block decides, which does not see the service line. -/
theorem State.serve_of_decided {s u : State} {c : ServiceCmd} {a : Answer} (running : s.running = true)
    (idle : s.svl.inProgress = none) (line : u.svl = s.svl)
    (decided : ∀ x, (s.withSvl x).runCommand c = (u.withSvl x, a)) : s.serve c = u.answered c.code a.code a.fields :=
  State.serve_of_idle running idle (decided _) line

/-! ### ABORT-LOAD (R17, R152, R153) -/

section abortLoad
variable {s : State}

theorem State.abortLoad_of_nil (none : s.bkc.entries = []) : s.abortLoad = (s, .plain .wrongState) := by
  simp only [State.abortLoad, none]

theorem State.abortLoad_of_cons {e : ChainEntry} {more : List ChainEntry} (entries : s.bkc.entries = e :: more) :
    s.abortLoad = ((s.withBkc (s.bkc.withEntries [e])).relatch e.locker, .plain .ok) := by
  simp only [State.abortLoad, entries]

/-- R17: a visit whose door has not opened ends, and with it the chain of its entry alone. -/
theorem State.abortLoad_of_shut {e : ChainEntry} {more : List ChainEntry} (entries : s.bkc.entries = e :: more)
    (loading : (s.locker e.locker).state = .loading) (runs : (s.locker e.locker).unlatchTimer ≠ none) :
    s.abortLoad = ((s.putLocker e.locker
      { (s.locker e.locker).relock with state := .booked, loadedCold := false }).withBkc
        { s.bkc with active := false, entries := [], remaining := 0 }, .plain .ok) := by
  have relatches : (s.locker e.locker).state = .loading ∧ (s.locker e.locker).unlatchTimer.isSome :=
    ⟨loading, Option.isSome_iff_ne_none.mpr runs⟩
  rw [State.abortLoad_of_cons entries, State.relatch, State.withBkc_locker, if_pos relatches]
  rfl

theorem State.abortLoad_of_open {e : ChainEntry} {more : List ChainEntry} (entries : s.bkc.entries = e :: more)
    (idle : (s.locker e.locker).unlatchTimer = none) :
    s.abortLoad = (s.withBkc { s.bkc with active := true, entries := [e], remaining := 1 }, .plain .ok) := by
  have stays : ¬ ((s.locker e.locker).state = .loading ∧ (s.locker e.locker).unlatchTimer.isSome) := by simp [idle]
  rw [State.abortLoad_of_cons entries, State.relatch, State.withBkc_locker, if_neg stays]
  rfl

end abortLoad

/-- Settles O44: by the chain, and by the unlatch timer of its current locker. -/
theorem abortLoadEndsTheVisit : Obligations.AbortLoadEndsTheVisit := by
  unfold Obligations.AbortLoadEndsTheVisit
  intro s running idle
  have answer {u : State} {a : Answer} (line : u.svl = s.svl)
      (decided : ∀ x, (s.withSvl x).abortLoad = (u.withSvl x, a)) :
      exec .abortLoad s = .next (u.answered 3 a.code a.fields) :=
    congrArg _ (State.serve_of_decided (c := .abortLoad) running idle line decided)
  refine ⟨fun none => ?_, fun e more entries loading => ⟨fun runs => ?_, fun stopped => ?_⟩⟩
  · exact answer (a := .plain .wrongState) rfl fun x => State.abortLoad_of_nil (s := s.withSvl x) none
  · exact answer (a := .plain .ok) rfl fun x => State.abortLoad_of_shut (s := s.withSvl x) entries loading runs
  · exact answer (a := .plain .ok) rfl fun x => State.abortLoad_of_open (s := s.withSvl x) entries stopped

/-! ### CANCEL (R18, R150, R151) -/

/-- R151: the current entry stays, and of those waiting the entry of the ref leaves. -/
theorem entriesWithout_eq (ref : OrderRef) (es : List ChainEntry) :
    entriesWithout ref es = es.take 1 ++ (es.drop 1).filter fun e => e.ref != ref := by
  cases es <;> rfl

section cancel
variable {s : State} {ref : OrderRef} {n : LockerNo}

theorem State.cancel_of_unheld (unheld : s.holderOf ref = none) : s.cancel ref = (s, .plain .notFound) := by
  simp only [State.cancel, unheld]

theorem State.cancel_of_booked (holder : s.holderOf ref = some n) (booked : (s.locker n).state = .booked) :
    s.cancel ref = ((s.freeBooked n).dropEntry ref, .plain .ok) := by
  simp only [State.cancel, holder, booked]

theorem State.cancel_of_holding (holder : s.holderOf ref = some n) (holding : (s.locker n).state = .holding) :
    s.cancel ref = (s.endInLockout n .cancelled .cancelled, .plain .ok) := by
  simp only [State.cancel, holder, holding]

theorem State.cancel_of_visited (holder : s.holderOf ref = some n)
    (visited : (s.locker n).state = .loading ∨ (s.locker n).state = .opened) :
    s.cancel ref = (s, .plain .busy) := by
  rcases visited with state | state <;> simp only [State.cancel, holder, state]

theorem State.cancel_of_ended (holder : s.holderOf ref = some n) (ended : (s.locker n).state = .lockout
    ∨ (s.locker n).state = .clearing ∨ (s.locker n).state = .filing) : s.cancel ref = (s, .plain .wrongState) := by
  rcases ended with state | state | state <;> simp only [State.cancel, holder, state]

end cancel

/-- An end of a booking does not see the service line. -/
theorem State.endInLockout_withSvl (s : State) (x : Svl) (n : LockerNo) (c : Cause) (e : BookingEnd) :
    (s.withSvl x).endInLockout n c e = (s.endInLockout n c e).withSvl x := by
  by_cases room : s.ocl.records.length < 8
  · rw [State.endInLockout_of_room s n c e room, State.endInLockout_of_room (s.withSvl x) n c e room]
    rfl
  · have full := Nat.le_of_not_lt room
    rw [State.endInLockout_of_full s n c e full, State.endInLockout_of_full (s.withSvl x) n c e full]
    rfl

/-- Settles O45: by the holder of the ref and its state. -/
theorem cancelByState : Obligations.CancelByState := by
  unfold Obligations.CancelByState
  intro ref s running idle
  have answer {u : State} {a : Answer} (line : u.svl = s.svl)
      (decided : ∀ x, (s.withSvl x).cancel ref = (u.withSvl x, a)) :
      exec (.cancel ref) s = .next (u.answered 4 a.code a.fields) :=
    congrArg _ (State.serve_of_decided (c := .cancel ref) running idle line decided)
  refine ⟨fun unheld => ?_, fun n holder => ⟨fun booked => ?_, fun holding => ?_, fun visited => ?_, fun ended => ?_⟩⟩
  · exact answer (a := .plain .notFound) rfl fun x => State.cancel_of_unheld (s := s.withSvl x) unheld
  · rw [← entriesWithout_eq]
    exact answer (a := .plain .ok) rfl fun x => State.cancel_of_booked (s := s.withSvl x) holder booked
  · refine answer (a := .plain .ok) (State.endInLockout_svl ..) fun x => ?_
    rw [← State.endInLockout_withSvl]
    exact State.cancel_of_holding (s := s.withSvl x) holder holding
  · exact answer (a := .plain .busy) rfl fun x => State.cancel_of_visited (s := s.withSvl x) holder visited
  · exact answer (a := .plain .wrongState) rfl fun x => State.cancel_of_ended (s := s.withSvl x) holder ended

/-! ### RELEASE (R31, R171, R173) -/

section release
variable {s : State} {ref : OrderRef}

theorem State.release_of_absent (absent : ∀ r ∈ s.ocl.records, r.ref ≠ ref) :
    s.release ref = (s, .plain .notFound) := by
  have none : ¬ (s.ocl.records.any fun r => r.ref == ref) = true := by simpa using absent
  rw [State.release, if_neg none]

/-- R173: the first record of the ref leaves the list. -/
theorem State.release_of_split {before after : List OutcomeRecord} {r : OutcomeRecord}
    (records : s.ocl.records = before ++ r :: after) (named : r.ref = ref) (first : ∀ x ∈ before, x.ref ≠ ref) :
    s.release ref = ((s.withOcl ⟨before ++ after, !(before ++ after).isEmpty⟩).fileFromQueue, .plain .ok) := by
  have found : (s.ocl.records.any fun r => r.ref == ref) = true := by simp [records, named]
  have rest : s.ocl.records.eraseP (fun r => r.ref == ref) = before ++ after := by
    rw [records, List.eraseP_append_right _ (by simpa using first), List.eraseP_cons_of_pos (by simpa using named)]
  rw [State.release, if_pos found, Ocl.remove, rest]

end release

/-- Settles O47: by the record of the ref and the head of the queue. -/
theorem releaseRemovesAndFiles : Obligations.ReleaseRemovesAndFiles := by
  unfold Obligations.ReleaseRemovesAndFiles
  intro ref s running idle
  have answer {u : State} {a : Answer} (line : u.svl = s.svl)
      (decided : ∀ x, (s.withSvl x).release ref = (u.withSvl x, a)) :
      exec (.release ref) s = .next (u.answered 9 a.code a.fields) :=
    congrArg _ (State.serve_of_decided (c := .release ref) running idle line decided)
  refine ⟨fun absent => ?_, fun before r after records named first => ⟨fun empty => ?_, fun e rest queue => ?_⟩⟩
  · exact answer (a := .plain .notFound) rfl fun x => State.release_of_absent (s := s.withSvl x) absent
  · refine answer (a := .plain .ok) rfl fun x => ?_
    rw [State.release_of_split (s := s.withSvl x) records named first,
      State.fileFromQueue_nil ((s.withSvl x).withOcl _) empty]
    rfl
  · refine answer (a := .plain .ok) rfl fun x => ?_
    rw [State.release_of_split (s := s.withSvl x) records named first,
      State.fileFromQueue_cons ((s.withSvl x).withOcl _) queue]
    rfl

/-! ### HIDE, SHOW and STAFF-OPEN (R26, R32, R33) -/

section staff
variable {s : State} {b : Byte} {n : LockerNo}

theorem State.hide_of_outOfRange (beyond : 16 ≤ b.toNat) : s.hide b = (s, .plain .outOfRange) := by
  simp only [State.hide, lockerOfByte_of_ge beyond]

theorem State.showCmd_of_outOfRange (beyond : 16 ≤ b.toNat) : s.showCmd b = (s, .plain .outOfRange) := by
  simp only [State.showCmd, lockerOfByte_of_ge beyond]

theorem State.staffOpen_of_outOfRange (beyond : 16 ≤ b.toNat) : s.staffOpen b = (s, .plain .outOfRange) := by
  simp only [State.staffOpen, lockerOfByte_of_ge beyond]

variable (names : b.toNat = n.val)
include names

theorem State.hide_of_locked (locked : s.cfg.hideLock = true) : s.hide b = (s, .plain .hideLocked) := by
  simp only [State.hide, lockerOfByte_of_toNat names, locked, if_true]

theorem State.showCmd_of_locked (locked : s.cfg.hideLock = true) : s.showCmd b = (s, .plain .hideLocked) := by
  simp only [State.showCmd, lockerOfByte_of_toNat names, locked, if_true]

theorem State.staffOpen_of_lockout (lockout : (s.locker n).state = .lockout) :
    s.staffOpen b = (s.toClearing n, ⟨.opened, [b]⟩) := by
  simp only [State.staffOpen, lockerOfByte_of_toNat names, byte1_of_toNat names, if_pos lockout]

theorem State.staffOpen_of_other (other : (s.locker n).state ≠ .lockout) :
    s.staffOpen b = (s, .plain .wrongState) := by
  simp only [State.staffOpen, lockerOfByte_of_toNat names, if_neg other]

variable (permitted : s.cfg.hideLock = false)
include permitted

theorem State.hide_of_hidden (out : (s.locker n).state = .out) (hidden : (s.locker n).hidden = true) :
    s.hide b = (s, .plain .ok) := by
  simp [State.hide, lockerOfByte_of_toNat names, permitted, out, hidden]

theorem State.hide_of_notFree (notFree : (s.locker n).state ≠ .free)
    (notHidden : ¬ ((s.locker n).state = .out ∧ (s.locker n).hidden = true)) : s.hide b = (s, .plain .busy) := by
  simp only [State.hide, lockerOfByte_of_toNat names, permitted, Bool.false_eq_true, if_false, if_neg notHidden,
    if_pos notFree]

theorem State.hide_of_open (free : (s.locker n).state = .free) (opened : (s.locker n).doorShut = false) :
    s.hide b = (s, .plain .busy) := by
  simp [State.hide, lockerOfByte_of_toNat names, permitted, free, opened]

theorem State.hide_of_free (free : (s.locker n).state = .free) (shut : (s.locker n).doorShut = true) :
    s.hide b = (s.putLocker n { s.locker n with state := .out, hidden := true }, .plain .ok) := by
  simp [State.hide, lockerOfByte_of_toNat names, permitted, free, shut]

theorem State.showCmd_of_notHidden (other : (s.locker n).state ≠ .out ∨ (s.locker n).hidden = false) :
    s.showCmd b = (s, .plain .wrongState) := by
  simp only [State.showCmd, lockerOfByte_of_toNat names, permitted, Bool.false_eq_true, if_false, if_pos other]

variable (out : (s.locker n).state = .out) (hidden : (s.locker n).hidden = true)
include out hidden

theorem State.showCmd_of_open (opened : (s.locker n).doorShut = false) : s.showCmd b = (s, .plain .busy) := by
  simp [State.showCmd, lockerOfByte_of_toNat names, permitted, out, hidden, opened]

variable (shut : (s.locker n).doorShut = true)
include shut

theorem State.showCmd_of_tray (loaded : (s.locker n).trayPresent = true) :
    s.showCmd b = (s, .plain .trayPresent) := by
  simp [State.showCmd, lockerOfByte_of_toNat names, permitted, out, hidden, shut, loaded]

theorem State.showCmd_of_empty (empty : (s.locker n).trayPresent = false) :
    s.showCmd b = (s.putLocker n { s.locker n with state := .free, hidden := false }, .plain .ok) := by
  simp [State.showCmd, lockerOfByte_of_toNat names, permitted, out, hidden, shut, empty]

end staff

/-- Settles O48: check by check. SHOW stores the tray levels first. -/
theorem hideShowAndStaffOpen : Obligations.HideShowAndStaffOpen := by
  unfold Obligations.HideShowAndStaffOpen
  intro b trays s running idle q
  have stillRunning : q.running = true := (s.sampleTrays_running trays).trans running
  have config : q.cfg.hideLock = s.cfg.hideLock := congrArg Config.hideLock (s.sampleTrays_cfg trays)
  have hide {u : State} {a : Answer} (line : u.svl = s.svl) (decided : ∀ x, (s.withSvl x).hide b = (u.withSvl x, a)) :
      exec (.hideLocker b) s = .next (u.answered 10 a.code a.fields) :=
    congrArg _ (State.serve_of_decided (c := .hideLocker b) running idle line decided)
  have showCmd {u : State} {a : Answer} (line : u.svl = q.svl)
      (decided : ∀ x, (q.withSvl x).showCmd b = (u.withSvl x, a)) :
      exec (.showLocker b trays) s = .next (u.answered 11 a.code a.fields) :=
    congrArg _ (State.serve_of_decided (c := .showLocker b) stillRunning idle line decided)
  have staffOpen {u : State} {a : Answer} (line : u.svl = s.svl)
      (decided : ∀ x, (s.withSvl x).staffOpen b = (u.withSvl x, a)) :
      exec (.staffOpen b) s = .next (u.answered 12 a.code a.fields) :=
    congrArg _ (State.serve_of_decided (c := .staffOpen b) running idle line decided)
  have shown (n : LockerNo) : q.locker n = { s.locker n with trayPresent := trays.getLsbD n.val } :=
    s.sampleTrays_locker trays n
  clear_value q
  have named (inside : b.toNat < 16) : b.toNat = (⟨b.toNat, inside⟩ : LockerNo).val := rfl
  refine ⟨fun beyond => ⟨?_, ?_, ?_⟩, fun inside locked => ⟨?_, ?_⟩, fun n names => ?_⟩
  · exact hide (a := .plain .outOfRange) rfl fun x => State.hide_of_outOfRange beyond
  · exact showCmd (a := .plain .outOfRange) rfl fun x => State.showCmd_of_outOfRange beyond
  · exact staffOpen (a := .plain .outOfRange) rfl fun x => State.staffOpen_of_outOfRange beyond
  · exact hide (a := .plain .hideLocked) rfl fun x => State.hide_of_locked (named inside) locked
  · exact showCmd (a := .plain .hideLocked) rfl fun x =>
      State.showCmd_of_locked (s := q.withSvl x) (named inside) (config.trans locked)
  · intro l
    have state : (q.locker n).state = l.state := by rw [shown n]
    have hidden : (q.locker n).hidden = l.hidden := by rw [shown n]
    have door : (q.locker n).doorShut = l.doorShut := by rw [shown n]
    have tray : (q.locker n).trayPresent = trays.getLsbD n.val := by rw [shown n]
    refine ⟨fun permitted => ⟨fun out isHidden => ?_, fun busy => ?_, fun free shut => ?_, fun other => ?_,
      fun out isHidden opened => ?_, fun out isHidden shut loaded => ?_, fun out isHidden shut empty => ?_⟩,
      fun other => ?_, fun lockout => ?_⟩
    · exact hide (a := .plain .ok) rfl fun x => State.hide_of_hidden (s := s.withSvl x) names permitted out isHidden
    · refine hide (a := .plain .busy) rfl fun x => ?_
      rcases busy with ⟨notFree, notHidden⟩ | ⟨free, opened⟩
      · exact State.hide_of_notFree (s := s.withSvl x) names permitted notFree notHidden
      · exact State.hide_of_open (s := s.withSvl x) names permitted free opened
    · exact hide (a := .plain .ok) rfl fun x => State.hide_of_free (s := s.withSvl x) names permitted free shut
    · have notHidden : (q.locker n).state ≠ .out ∨ (q.locker n).hidden = false := by rwa [state, hidden]
      exact showCmd (a := .plain .wrongState) rfl fun x =>
        State.showCmd_of_notHidden (s := q.withSvl x) names (config.trans permitted) notHidden
    · exact showCmd (a := .plain .busy) rfl fun x => State.showCmd_of_open (s := q.withSvl x) names
        (config.trans permitted) (state.trans out) (hidden.trans isHidden) (door.trans opened)
    · exact showCmd (a := .plain .trayPresent) rfl fun x => State.showCmd_of_tray (s := q.withSvl x) names
        (config.trans permitted) (state.trans out) (hidden.trans isHidden) (door.trans shut) (tray.trans loaded)
    · exact showCmd (a := .plain .ok) rfl fun x => State.showCmd_of_empty (s := q.withSvl x) names
        (config.trans permitted) (state.trans out) (hidden.trans isHidden) (door.trans shut) (tray.trans empty)
    · exact staffOpen (a := .plain .wrongState) rfl fun x => State.staffOpen_of_other (s := s.withSvl x) names other
    · exact staffOpen (a := ⟨.opened, [b]⟩) rfl fun x => State.staffOpen_of_lockout (s := s.withSvl x) names lockout

/-! ### BOOK: the checks (R139, R140) -/

theorem profileOfByte_of_toNat {b : Byte} {p : ProfileNo} (names : p.val = b.toNat) : profileOfByte b = some p := by
  have range : b.toNat < 8 := names ▸ p.isLt
  rw [profileOfByte, dif_pos range]
  exact congrArg some (Fin.ext names.symm)

theorem bookInRange_iff {ref : OrderRef} {code : Code} {profile : Byte} {preferred : Option Byte} :
    bookInRange ref code profile preferred = true ↔ ref ≠ 0 ∧ code.toNat ≤ 999999 ∧ profile.toNat ≤ 7
      ∧ ∀ b, preferred = some b → b.toNat ≤ 15 := by
  have profileIff : (profileOfByte profile).isSome = true ↔ profile.toNat ≤ 7 := by
    unfold profileOfByte
    split <;> simp <;> omega
  have lockerIff (b : Byte) : (lockerOfByte b).isSome = true ↔ b.toNat ≤ 15 := by
    unfold lockerOfByte
    split <;> simp <;> omega
  simp only [bookInRange, Bool.and_eq_true, bne_iff_ne, decide_eq_true_eq, profileIff, and_assoc]
  cases preferred <;> simp [lockerIff]

section checks
variable {s : State}

theorem State.bookable_iff {profile : Byte} (range : profile.toNat ≤ 7) :
    s.bookable profile = true ↔ ∀ p : ProfileNo, p.val = profile.toNat → s.slots[p].valid = true := by
  have named : profileOfByte profile = some ⟨profile.toNat, Nat.lt_succ_of_le range⟩ := profileOfByte_of_toNat rfl
  simp only [State.bookable, named]
  constructor
  · rintro valid p same
    obtain rfl : p = ⟨profile.toNat, Nat.lt_succ_of_le range⟩ := Fin.ext same
    exact valid
  · exact fun valid => valid _ rfl

theorem State.holderOf_isSome_iff {ref : OrderRef} :
    (s.holderOf ref).isSome = true ↔ ∃ n, (s.locker n).orderRef = some ref := by
  simp [State.holderOf]

theorem State.codeHolder_isSome_iff {code : Code} :
    (s.codeHolder code).isSome = true ↔ ∃ n, (s.locker n).pickupCode = some code := by
  simp [State.codeHolder]

theorem State.dupOrder_iff {ref : OrderRef} : s.dupOrder ref = true ↔
    (∃ n, (s.locker n).orderRef = some ref) ∨ ∃ r ∈ s.ocl.records, r.ref = ref := by
  simp [State.dupOrder, State.holderOf_isSome_iff, State.inOcl]

theorem State.dupCode_iff {code : Code} : s.dupCode code = true ↔
    (∃ n, (s.locker n).pickupCode = some code) ∨ code = s.cfg.staffCode := by
  simp [State.dupCode, State.codeHolder_isSome_iff]

end checks

/-! ### BOOK: the locker (R141) -/

section choice
variable {s : State} {n : LockerNo}

/-- R141: of a list in rising order, the locker of the highest rank and, among equals, the lowest number. -/
theorem State.warmest_of_best {ns : List LockerNo} (rising : ns.Pairwise (· < ·)) (member : n ∈ ns)
    (best : ∀ m ∈ ns, rankOf (s.locker m).reading < rankOf (s.locker n).reading
      ∨ rankOf (s.locker m).reading = rankOf (s.locker n).reading ∧ n ≤ m) : s.warmest ns = some n := by
  induction ns with
  | nil => exact absurd member List.not_mem_nil
  | cons k rest ih =>
    obtain ⟨least, later⟩ := List.pairwise_cons.mp rising
    obtain ⟨head, tail⟩ := List.forall_mem_cons.mp best
    rw [State.warmest]
    rcases List.mem_cons.mp member with rfl | inRest
    · cases other : s.warmest rest with
      | none => rfl
      | some m =>
        have notWarmer : ¬ rankOf (s.locker n).reading < rankOf (s.locker m).reading := by
          have := tail m (State.mem_of_warmest other)
          omega
        simp only [if_neg notWarmer]
    · have warmer : rankOf (s.locker k).reading < rankOf (s.locker n).reading := by
        have before : k < n := least n inRest
        rcases head with colder | ⟨_, after⟩
        · exact colder
        · exact absurd after (not_le.mpr before)
      simp only [ih later inRest tail, if_pos warmer]

theorem State.freeLockers_rising (s : State) : s.freeLockers.Pairwise (· < ·) :=
  (List.pairwise_lt_finRange 16).filter _

/-- The byte that names a locker. -/
theorem lockerOfByte_eq_some_iff {b : Byte} : lockerOfByte b = some n ↔ b = BitVec.ofNat 8 n.val := by
  constructor
  · exact fun named => (byte1_of_toNat (toNat_of_lockerOfByte named)).symm
  · rintro rfl
    have inside := n.isLt
    exact lockerOfByte_of_toNat (by rw [BitVec.toNat_ofNat]; omega)

theorem preferred_iff {preferred : Option Byte} :
    preferred.bind lockerOfByte = some n ↔ preferred = some (BitVec.ofNat 8 n.val) := by
  simp only [Option.bind_eq_some_iff, lockerOfByte_eq_some_iff]
  exact ⟨fun ⟨b, named, same⟩ => same ▸ named, fun named => ⟨_, named, rfl⟩⟩

theorem State.chooseLocker_of_preferred {preferred : Option Byte} (free : (s.locker n).state = .free)
    (wanted : preferred = some (BitVec.ofNat 8 n.val)) : s.chooseLocker preferred = some n := by
  simp only [State.chooseLocker, preferred_iff.mpr wanted, if_pos free]

/-- R141: without a FREE preferred locker the ranking decides. -/
theorem State.chooseLocker_of_ranking {preferred : Option Byte}
    (taken : ∀ m : LockerNo, preferred = some (BitVec.ofNat 8 m.val) → (s.locker m).state ≠ .free) :
    s.chooseLocker preferred = s.warmest s.freeLockers := by
  unfold State.chooseLocker
  split
  next m named => rw [if_neg (taken m (preferred_iff.mp named))]
  next => rfl

/-- The choice does not see the service line. -/
theorem State.warmest_withSvl (s : State) (x : Svl) (ns : List LockerNo) : (s.withSvl x).warmest ns = s.warmest ns := by
  induction ns with
  | nil => rfl
  | cons k rest ih =>
    rw [State.warmest, State.warmest, ih]
    rfl

theorem State.chooseLocker_withSvl (s : State) (x : Svl) (preferred : Option Byte) :
    (s.withSvl x).chooseLocker preferred = s.chooseLocker preferred := by
  have freeLockers : (s.withSvl x).freeLockers = s.freeLockers := rfl
  simp only [State.chooseLocker, State.warmest_withSvl, State.withSvl_locker, freeLockers]

end choice

/-! ### BOOK: the suggestion (R117, R143) -/

/-- R117: `p` is to be suggested no later than `q`. -/
def Peer.Better (p q : Peer) : Prop := q.free < p.free ∨ q.free = p.free ∧ p.station ≤ q.station

theorem Peer.Better.refl (p : Peer) : p.Better p := .inr ⟨rfl, le_rfl⟩

theorem Peer.Better.trans {p q r : Peer} (first : p.Better q) (second : q.Better r) : p.Better r := by
  unfold Peer.Better at *
  omega

theorem betterPeer_spec (p q : Peer) : (betterPeer p q = p ∨ betterPeer p q = q)
    ∧ (betterPeer p q).Better p ∧ (betterPeer p q).Better q := by
  unfold betterPeer
  split
  next fewer => exact ⟨.inl rfl, .refl p, .inl fewer⟩
  split
  next _ more => exact ⟨.inr rfl, .inl more, .refl q⟩
  split
  next notFewer notMore lower => exact ⟨.inl rfl, .refl p, .inr ⟨by omega, lower⟩⟩
  next notFewer notMore higher => exact ⟨.inr rfl, .inr ⟨by omega, by omega⟩, .refl q⟩

theorem suggest_of_none {ps : List Peer} (none : suggest ps = none) : ∀ p ∈ ps, p.free = 0 := by
  induction ps with
  | nil => exact fun p member => absurd member List.not_mem_nil
  | cons p rest ih =>
    rw [suggest] at none
    cases later : suggest rest with
    | some q => simp [later] at none
    | none =>
      have empty : p.free = 0 := by simpa [later] using none
      exact List.forall_mem_cons.mpr ⟨empty, ih later⟩

theorem suggest_of_some {ps : List Peer} {p : Peer} (found : suggest ps = some p) :
    p ∈ ps ∧ 0 < p.free ∧ ∀ q ∈ ps, p.Better q := by
  induction ps generalizing p with
  | nil => simp [suggest] at found
  | cons first rest ih =>
    rw [suggest] at found
    cases later : suggest rest with
    | none =>
      simp only [later] at found
      split at found
      next => exact absurd found nofun
      next some =>
        obtain rfl := Option.some.inj found
        refine ⟨List.mem_cons_self, Nat.pos_of_ne_zero some,
          List.forall_mem_cons.mpr ⟨.refl _, fun q member => .inl ?_⟩⟩
        rw [suggest_of_none later q member]
        exact Nat.pos_of_ne_zero some
    | some q =>
      simp only [later] at found
      obtain rfl := Option.some.inj found
      obtain ⟨member, some, best⟩ := ih later
      obtain ⟨one, first', second⟩ := betterPeer_spec first q
      refine ⟨?_, ?_, List.forall_mem_cons.mpr ⟨first', fun r inRest => second.trans (best r inRest)⟩⟩
      · rcases one with same | same <;> rw [same]
        · exact List.mem_cons_self
        · exact List.mem_cons_of_mem _ member
      · unfold Peer.Better at second
        omega

/-- R143: the suggestion names the station of the best peer with a FREE locker. -/
theorem State.suggestion_of_best {s : State} {p : Peer} (member : p ∈ s.pvt.peers) (some : 0 < p.free)
    (best : ∀ q ∈ s.pvt.peers, p.Better q) : s.suggestion = byte1 p.station := by
  cases found : suggest s.pvt.peers with
  | none =>
    have empty := suggest_of_none found p member
    omega
  | some q =>
    obtain ⟨inTable, _, first⟩ := suggest_of_some found
    have same : q.station = p.station := by
      have above := first p member
      have below := best q inTable
      unfold Peer.Better at above below
      omega
    simp only [State.suggestion, found, same]

theorem State.suggestion_of_none {s : State} (empty : ∀ p ∈ s.pvt.peers, p.free = 0) : s.suggestion = 255 := by
  cases found : suggest s.pvt.peers with
  | none => simp only [State.suggestion, found]
  | some q =>
    obtain ⟨inTable, some, _⟩ := suggest_of_some found
    have := empty q inTable
    omega

/-! ### BOOK (R14, R139 to R143) -/

section book
variable {s : State} {ref : OrderRef} {code : Code} {profile : Byte} {preferred : Option Byte}

theorem State.book_of_outOfRange (outside : ¬ bookInRange ref code profile preferred = true) :
    s.book ref code profile preferred = (s, .plain .outOfRange) := by
  simp [State.book, outside]

variable (inRange : bookInRange ref code profile preferred = true)
include inRange

theorem State.book_of_invalid (invalid : ¬ s.bookable profile = true) :
    s.book ref code profile preferred = (s, .plain .profileInvalid) := by
  simp [State.book, inRange, invalid]

variable (valid : s.bookable profile = true)
include valid

theorem State.book_of_dupOrder (dup : s.dupOrder ref = true) :
    s.book ref code profile preferred = (s, .plain .dupOrder) := by
  simp [State.book, inRange, valid, dup]

variable (newRef : ¬ s.dupOrder ref = true)
include newRef

theorem State.book_of_dupCode (dup : s.dupCode code = true) :
    s.book ref code profile preferred = (s, .plain .dupCode) := by
  simp [State.book, inRange, valid, newRef, dup]

variable (newCode : ¬ s.dupCode code = true)
include newCode

theorem State.book_of_chosen {n : LockerNo} (chosen : s.chooseLocker preferred = some n) :
    s.book ref code profile preferred = (s.assign n ref code profile, ⟨.ok, [byte1 n.val]⟩) := by
  simp [State.book, inRange, valid, newRef, newCode, chosen]

theorem State.book_of_full (full : s.chooseLocker preferred = none) :
    s.book ref code profile preferred = (s, ⟨.full, [s.suggestion]⟩) := by
  simp [State.book, inRange, valid, newRef, newCode, full]

end book

/-- Settles O42: by the first check that fails, and by the locker and the peer that rank first. -/
theorem bookChecksAndAssigns : Obligations.BookChecksAndAssigns := by
  unfold Obligations.BookChecksAndAssigns
  intro ref code profile preferred s running idle c inRange valid dupOrder dupCode wanted rank
  have answer {u : State} {a : Answer} (line : u.svl = s.svl)
      (decided : ∀ x, (s.withSvl x).book ref code profile preferred = (u.withSvl x, a)) :
      exec c s = .next (u.answered 1 a.code a.fields) :=
    congrArg _ (State.serve_of_decided (c := .book ref code profile preferred) running idle line decided)
  have rangeIff : bookInRange ref code profile preferred = true ↔ inRange := bookInRange_iff
  have small (range : inRange) : profile.toNat < 8 := by
    obtain ⟨-, -, most, -⟩ := range
    exact Nat.lt_succ_of_le most
  have validIff (range : inRange) : s.bookable profile = true ↔ valid :=
    State.bookable_iff (Nat.le_of_lt_succ (small range))
  have rankEq (m : LockerNo) : rankOf (s.locker m).reading = rank m := by
    simp only [rank]
    cases (s.locker m).reading <;> rfl
  refine ⟨fun outside => ?_, fun range invalid => ?_, fun range stored dup => ?_, fun range stored newRef dup => ?_,
    fun range stored newRef newCode => ⟨fun n free first => ?_,
      fun full => ⟨fun none => ?_, fun p member some best => ?_⟩⟩⟩
  · exact answer (a := .plain .outOfRange) rfl fun x => State.book_of_outOfRange (mt rangeIff.mp outside)
  · exact answer (a := .plain .profileInvalid) rfl fun x =>
      State.book_of_invalid (s := s.withSvl x) (rangeIff.mpr range) (mt (validIff range).mp invalid)
  · exact answer (a := .plain .dupOrder) rfl fun x => State.book_of_dupOrder (s := s.withSvl x) (rangeIff.mpr range)
      ((validIff range).mpr stored) (State.dupOrder_iff.mpr dup)
  · exact answer (a := .plain .dupCode) rfl fun x => State.book_of_dupCode (s := s.withSvl x) (rangeIff.mpr range)
      ((validIff range).mpr stored) (mt State.dupOrder_iff.mp newRef) (State.dupCode_iff.mpr dup)
  · have chosen : s.chooseLocker preferred = some n := by
      rcases first with preferredOne | ⟨taken, best⟩
      · exact State.chooseLocker_of_preferred free preferredOne
      · rw [State.chooseLocker_of_ranking taken]
        refine State.warmest_of_best s.freeLockers_rising (State.mem_freeLockers.mpr free) fun m member => ?_
        rw [rankEq, rankEq]
        exact best m (State.mem_freeLockers.mp member)
    have named : profileOfByte profile = some ⟨profile.toNat, small range⟩ := profileOfByte_of_toNat rfl
    refine ⟨⟨profile.toNat, small range⟩, rfl, ?_⟩
    rw [← named]
    exact answer (a := ⟨.ok, [byte1 n.val]⟩) rfl fun x => State.book_of_chosen (s := s.withSvl x) (rangeIff.mpr range)
      ((validIff range).mpr stored) (mt State.dupOrder_iff.mp newRef) (mt State.dupCode_iff.mp newCode)
      ((s.chooseLocker_withSvl x preferred).trans chosen)
  all_goals
    have noFree : s.freeLockers = [] := List.eq_nil_iff_forall_not_mem.mpr fun m member =>
      full m (State.mem_freeLockers.mp member)
    have noChoice : s.chooseLocker preferred = Option.none := by
      rw [State.chooseLocker_of_ranking fun m _ => full m, noFree]
      rfl
    have filled : exec c s = .next (s.answered 1 .full [s.suggestion]) :=
      answer (a := ⟨.full, [s.suggestion]⟩) rfl fun x => State.book_of_full (s := s.withSvl x) (rangeIff.mpr range)
        ((validIff range).mpr stored) (mt State.dupOrder_iff.mp newRef) (mt State.dupCode_iff.mp newCode)
        ((s.chooseLocker_withSvl x preferred).trans noChoice)
  · rw [filled, State.suggestion_of_none none]
  · rw [filled, State.suggestion_of_best member some best]
    rfl

end Sys2Proof.Machine
